-- ==== Sys2Proof/Word.lean ====
section
/-! DEFINITION. The word types of the WB-840: bytes, 32-bit register words and 64-bit host addresses
(00_scope.md, Conventions: addresses are 64-bit byte addresses; R168: registers are 32 bits wide). -/

namespace Sys2Proof

/-- One byte of a host-memory record. -/
abbrev Byte := BitVec 8

/-- A 32-bit register or record word. -/
abbrev Word := BitVec 32

/-- A 64-bit host byte address; sums wrap modulo 2^64 (R4, R63). -/
abbrev Addr := BitVec 64

/-- A lane number, 0–7. -/
abbrev LaneNo := Fin 8

/-- A reduction unit number, 0–1. -/
abbrev UnitNo := Fin 2

/-- A notice source: 0 is ENGINE and n + 1 is lane n (R156). -/
abbrev Source := Fin 9

end Sys2Proof
end

