-- ==== Sys2Proof/Syntax.lean ====
section
/-! DEFINITION. The commands of the WB-840, one constructor for each row of spec/opcode_table.json.
A command is a host access to the register window, an event of time or of the message, the end of a
request to host memory, or the profile store's taking of a request. -/

namespace Sys2Proof

/-- The arbitration mode of the dispatcher, CONTROL bit 4 (R42, R170). -/
inductive DispatchMode where
  | fixed
  | rotating
deriving DecidableEq, Repr

/-- The mode of the notice controller, CONTROL bit 5 (R156, R170). -/
inductive NoticeMode where
  | nested
  | autoEnd
deriving DecidableEq, Repr

/-- The two 32-bit words of AREA (R169). -/
inductive AreaWord where
  | low
  | high
deriving DecidableEq, Repr

/-- The three causes of a cold reset (R179). -/
inductive ColdResetCause where
  | powerOn
  | fundamental
  | functionLevel
deriving DecidableEq, Repr

/-- How a read or a CAS ends: with the value it returns, or in error (R7). -/
inductive ReadEnd (α : Type) where
  | ok (value : α)
  | error
deriving DecidableEq, Repr

/-- How a write ends: sent, or in error because it cannot be sent (R7). -/
inductive WriteEnd where
  | ok
  | error
deriving DecidableEq, Repr

/-- The end of a request to host memory: its result, with the epoch of the block in which the request was issued.
A halt or a reset, which abandons every request in flight, begins a new epoch, so that an abandoned request's
result is known when it returns (R36, R37, R60). -/
structure Ended (ρ : Type) where
  epoch : Nat
  result : ρ
deriving DecidableEq, Repr

/-- What lies outside the engine and decides what becomes of a due message at the moment its write is
to be issued: the enables, the link, and the address and data of the capability (R7, R165). -/
structure MessageOutlet where
  msiEnabled : Bool
  busMaster : Bool
  linkUp : Bool
  address : Addr
  data : Word
deriving DecidableEq, Repr

/-- The commands, in the order of spec/opcode_table.json. -/
inductive Instr where
  /-- START: a LANE write with action 1; bits 7–0 name the lane (R22, R23, R172). -/
  | start (lane : Byte)
  /-- STOP: a LANE write with action 2. -/
  | stop (lane : Byte)
  /-- POST: a LANE write with action 3. -/
  | post (lane : Byte)
  /-- RUN_SET: a CONTROL write; `word` gives every bit but bit 0, which is 1, and bit 1, which is 0 (R171). -/
  | runSet (word : Word)
  /-- RUN_CLEAR: a CONTROL write; `word` gives every bit but bits 0 and 1, which are 0 (R171). -/
  | runClear (word : Word)
  /-- ENGINE_RESET: a CONTROL write; `word` gives every bit but bit 1, which is 1 (R178). -/
  | engineReset (word : Word)
  /-- DISPATCH_MODE: a CONTROL write that gives every other field the value it reads back (R42, R170). -/
  | dispatchMode (mode : DispatchMode)
  /-- NOTICE_MODE: a CONTROL write that gives every other field the value it reads back (R163, R170). -/
  | noticeMode (mode : NoticeMode)
  /-- MESSAGE_ENABLE: a CONTROL write that gives every other field the value it reads back (R164, R170). -/
  | messageEnable (on : Bool)
  /-- AREA_WRITE: a write to one word of AREA (R169). -/
  | areaWrite (which : AreaWord) (value : Word)
  /-- STATUS_WRITE: a write to STATUS (R174). -/
  | statusWrite (value : Word)
  /-- TAKE: a read that covers NOTICE, of `size` bytes at `offset` of the window (R159, R168, R173). -/
  | take (offset : BitVec 12) (size : Nat)
  /-- END_ANY: a NOTICE write with command 1; the source field is ignored (R161, R173). -/
  | endAny (source : Byte)
  /-- END_ANY_ROTATE: a NOTICE write with command 2; the source field is ignored. -/
  | endAnyRotate (source : Byte)
  /-- END: a NOTICE write with command 3. -/
  | endSource (source : Byte)
  /-- LOWEST: a NOTICE write with command 4 (R162). -/
  | lowest (source : Byte)
  /-- MASK: a NOTICE write with command 5. -/
  | mask (source : Byte)
  /-- UNMASK: a NOTICE write with command 6. -/
  | unmask (source : Byte)
  /-- UNMAPPED_WRITE: a write of `size` bytes at `offset` that carries none of the operations above (R168, R175). -/
  | unmappedWrite (offset : BitVec 12) (size : Nat) (value : Word)
  /-- COLD_RESET (R179). -/
  | coldReset (cause : ColdResetCause)
  /-- HOLDOFF_TICK: 2^p µs have passed for the lane's holdoff timer (R151). -/
  | holdoffTick (lane : LaneNo)
  /-- HOLDOFF_UNDERFLOW: a tick that finds the counter at 0 (R153). -/
  | holdoffUnderflow (lane : LaneNo)
  /-- MESSAGE: the write of the message in flight is to be issued (R165). -/
  | message (outlet : MessageOutlet)
  /-- HOST_HALF_READ_DONE: bytes 0x00–0x3F of the lane record (R23, R182). -/
  | hostHalfReadDone (lane : LaneNo) (result : Ended (ReadEnd (List Byte)))
  /-- START_RECORD_WRITE_DONE: the device-half write of the start sequence (R23, R24). -/
  | startRecordWriteDone (lane : LaneNo) (result : Ended WriteEnd)
  /-- LINK_READ_DONE: the 64-bit current link (R8). -/
  | linkReadDone (lane : LaneNo) (result : Ended (ReadEnd Addr))
  /-- STATE_WORD_READ_DONE: the 32-bit state word (R9). -/
  | stateWordReadDone (lane : LaneNo) (result : Ended (ReadEnd Word))
  /-- DOCKET_READ_DONE: bytes 4–255 of the docket (R9). -/
  | docketReadDone (lane : LaneNo) (result : Ended (ReadEnd (List Byte)))
  /-- CLAIM_DONE: the value the claim's CAS returned (R10). -/
  | claimDone (lane : LaneNo) (result : Ended (ReadEnd Word))
  /-- SKIP_WRITE_DONE: the device-half write of a skip (R12). -/
  | skipWriteDone (lane : LaneNo) (result : Ended WriteEnd)
  /-- RESULT_SECTION_WRITE_DONE: step 1 of a report (R16). -/
  | resultSectionWriteDone (lane : LaneNo) (result : Ended WriteEnd)
  /-- STATE_WORD_WRITE_DONE: step 2 of a report (R16). -/
  | stateWordWriteDone (lane : LaneNo) (result : Ended WriteEnd)
  /-- REPORT_RECORD_WRITE_DONE: step 3 of a report (R31). -/
  | reportRecordWriteDone (lane : LaneNo) (result : Ended WriteEnd)
  /-- STOP_RECORD_WRITE_DONE: the device-half write of an entry to STOPPED (R27). -/
  | stopRecordWriteDone (lane : LaneNo) (result : Ended WriteEnd)
  /-- FAULT_RECORD_WRITE_DONE: the device-half write of a fault (R34). -/
  | faultRecordWriteDone (lane : LaneNo) (result : Ended WriteEnd)
  /-- STAGE_NOW: the store takes the lane's NOW request (R129). -/
  | stageNow (lane : LaneNo)
  /-- STAGE_AT_OPEN: the store takes the lane's append request (R130). -/
  | stageAtOpen (lane : LaneNo)
  /-- STAGE_CANCEL: the store takes the lane's cancel request (R131). -/
  | stageCancel (lane : LaneNo)
  /-- OPEN: the store takes the request of the lane's OPEN docket (R133, R140). -/
  | openBundle (lane : LaneNo)
  /-- SNAPSHOT: the store takes the unit's snapshot request (R48). -/
  | snapshot (unit : UnitNo)
  /-- SOURCE_READ_DONE: the end of the unit's read of the bytes of source row `row` from byte `off` (R64). -/
  | sourceReadDone (unit : UnitNo) (row off : Nat) (result : Ended (ReadEnd (List Byte)))
  /-- OUTPUT_WRITE_DONE: the end of the unit's write whose first byte is byte `index` of the attempt (R104). -/
  | outputWriteDone (unit : UnitNo) (index : Nat) (result : Ended WriteEnd)
deriving DecidableEq, Repr

/-- The mnemonic of a command's row in spec/opcode_table.json. -/
def Instr.mnemonic : Instr → String
  | .start _ => "START"
  | .stop _ => "STOP"
  | .post _ => "POST"
  | .runSet _ => "RUN_SET"
  | .runClear _ => "RUN_CLEAR"
  | .engineReset _ => "ENGINE_RESET"
  | .dispatchMode _ => "DISPATCH_MODE"
  | .noticeMode _ => "NOTICE_MODE"
  | .messageEnable _ => "MESSAGE_ENABLE"
  | .areaWrite _ _ => "AREA_WRITE"
  | .statusWrite _ => "STATUS_WRITE"
  | .take _ _ => "TAKE"
  | .endAny _ => "END_ANY"
  | .endAnyRotate _ => "END_ANY_ROTATE"
  | .endSource _ => "END"
  | .lowest _ => "LOWEST"
  | .mask _ => "MASK"
  | .unmask _ => "UNMASK"
  | .unmappedWrite _ _ _ => "UNMAPPED_WRITE"
  | .coldReset _ => "COLD_RESET"
  | .holdoffTick _ => "HOLDOFF_TICK"
  | .holdoffUnderflow _ => "HOLDOFF_UNDERFLOW"
  | .message _ => "MESSAGE"
  | .hostHalfReadDone _ _ => "HOST_HALF_READ_DONE"
  | .startRecordWriteDone _ _ => "START_RECORD_WRITE_DONE"
  | .linkReadDone _ _ => "LINK_READ_DONE"
  | .stateWordReadDone _ _ => "STATE_WORD_READ_DONE"
  | .docketReadDone _ _ => "DOCKET_READ_DONE"
  | .claimDone _ _ => "CLAIM_DONE"
  | .skipWriteDone _ _ => "SKIP_WRITE_DONE"
  | .resultSectionWriteDone _ _ => "RESULT_SECTION_WRITE_DONE"
  | .stateWordWriteDone _ _ => "STATE_WORD_WRITE_DONE"
  | .reportRecordWriteDone _ _ => "REPORT_RECORD_WRITE_DONE"
  | .stopRecordWriteDone _ _ => "STOP_RECORD_WRITE_DONE"
  | .faultRecordWriteDone _ _ => "FAULT_RECORD_WRITE_DONE"
  | .stageNow _ => "STAGE_NOW"
  | .stageAtOpen _ => "STAGE_AT_OPEN"
  | .stageCancel _ => "STAGE_CANCEL"
  | .openBundle _ => "OPEN"
  | .snapshot _ => "SNAPSHOT"
  | .sourceReadDone _ _ _ _ => "SOURCE_READ_DONE"
  | .outputWriteDone _ _ _ => "OUTPUT_WRITE_DONE"

end Sys2Proof
end

