-- ==== Sys2Proof/Decode.lean ====
section
/-! DEFINITION. The command that a word spells by the bits of spec/opcode_table.json. No row of the
table gives bits ("fields" is empty in all 42 rows), so no word spells a command. -/

namespace Sys2Proof

/-- The command that the `nbits` bits of `w` spell. The table gives no row any bits, so the answer is
`none` for every word; the register window's own decoding of written words is
`Sys2Proof.Machine.windowWrite`. -/
def decodeTableWord (_nbits _w : Nat) : Option Instr :=
  none

end Sys2Proof
end

