-- ==== Sys2Proof/Machine/State.lean ====
section
/-! DEFINITION. The state of the WB-840: the register window's own state, the eight lanes with their
holdoff timers, the dispatcher, the two reduction units, the profile store and the notice controller,
with the queue of commands that wait. Plain data throughout, and the values after a cold reset. -/

namespace Sys2Proof.Machine

/-- Why a command stops the block. No command does: every error the spec describes is a lane fault, a
side status, a refusal code or a halt, and each of these is a next state. -/
inductive Fault where
  /-- Raised by no meaning; it stands so that the reason type of Host.Outcome is inhabited. Safe. -/
  | neverRaised
deriving DecidableEq, Repr

/-- Why a command has no meaning here. -/
inductive Refusal where
  /-- Raised by `exec` for a row of the table that the model has not reached; no arm uses it. Safe. -/
  | notModelled (mnemonic : String)
deriving DecidableEq, Repr

/-! ### Register window -/

/-- The engine states (R170, R174). -/
inductive EngineState where
  | disabled
  | running
  | halted
deriving DecidableEq, Repr

/-- The halt causes (R174). -/
inductive HaltCause where
  | none
  | recordWrite
deriving DecidableEq, Repr

/-! ### Lanes -/

/-- The lane states (R20). -/
inductive LaneState where
  | idle
  | checking
  | waiting
  | holding
  | active
  | stopped
  | faulted
deriving DecidableEq, Repr

/-- The lane condition of the device half (R3, R182). -/
inductive LaneCondition where
  | running
  | stopped
  | faulted
deriving DecidableEq, Repr

/-- The lane fault codes (R33, R182). -/
inductive FaultCode where
  | none
  | linkRead
  | badLink
  | badState
  | claimFailed
  | resultWrite
deriving DecidableEq, Repr

/-- The refusal codes of a result section; `none` stands in a DONE docket (R30, R181). -/
inductive RefusalCode where
  | none
  | kind
  | profile
  | output
  | geometry
  | resolution
  | depth
  | stride
  | trigger
  | slotsFull
  | bundleState
  | bundleId
deriving DecidableEq, Repr

/-- The occasions of a device-half write (R3). -/
inductive RecordOccasion where
  | start
  | skip
  | report
  | stop
  | fault
deriving DecidableEq, Repr

/-- A lane's request to host memory, with its address and the bytes it carries (R7). -/
inductive LaneRequest where
  /-- The 64 bytes of the host half (R23 step 1, R182). -/
  | hostHalfRead (address : Addr)
  /-- The 8 bytes of the current link (R8). -/
  | linkRead (address : Addr)
  /-- The 4 bytes of a docket's state word (R9). -/
  | stateWordRead (address : Addr)
  /-- Bytes 4–255 of a docket (R9). -/
  | docketRead (address : Addr)
  /-- The claim's compare-and-swap (R10). -/
  | claim (address : Addr) (expected replacement : Word)
  /-- The 64 bytes of the device half (R3, R182). -/
  | recordWrite (occasion : RecordOccasion) (address : Addr) (bytes : List Byte)
  /-- The 96 bytes of the result section (R16 step 1, R181). -/
  | resultWrite (address : Addr) (bytes : List Byte)
  /-- The docket's state word (R16 step 2). -/
  | stateWordWrite (address : Addr) (value : Word)
deriving DecidableEq, Repr

/-- The outcomes of an item (R57). -/
inductive ItemOutcome where
  | ok
  | flagged
  | oversize
  | readError
  | writeError
deriving DecidableEq, Repr

/-- What a docket's report does to the bundle context at step 3 (R144, R145). -/
inductive BundleChange where
  | none
  | opened (id : Word)
  | closed
  | itemRefused
  | itemDone (outcome : ItemOutcome) (sides bytes : Nat)
deriving DecidableEq, Repr

/-- What a lane reports of the docket it holds: the refusal code (`none` for DONE), the kind-specific
bytes 0xA5–0xFF of the result section, and the change to the bundle context (R16, R181). -/
structure Report where
  refusal : RefusalCode
  result : List Byte
  change : BundleChange
deriving DecidableEq, Repr

/-- An update to a profile: the field-enable mask and the sixteen values (R125, R127). -/
structure Update where
  mask : BitVec 16
  values : Vector Word 16
deriving DecidableEq, Repr

/-- An entry of the stage list (R130, R132). -/
structure StageEntry where
  profile : Fin 16
  lane : LaneNo
  update : Update
deriving DecidableEq, Repr

/-- A lane's request to the profile store (R120). -/
inductive StoreRequest where
  | now (profile : Fin 16) (update : Update)
  | atOpen (entry : StageEntry)
  | cancel (profile : Fin 16)
  | openBundle (id : Word)
deriving DecidableEq, Repr

/-- The bundle context of a lane (R139). -/
structure Bundle where
  isOpen : Bool
  id : Word
  itemsDone : Word
  itemsRefused : Word
  sidesCoded : Word
  bytes : Word
  flagged : Word
  oversize : Word
  errors : Word
deriving DecidableEq, Repr

/-- No bundle opened since the last reset (R38, R139). -/
def Bundle.reset : Bundle :=
  { isOpen := false, id := 0, itemsDone := 0, itemsRefused := 0, sidesCoded := 0, bytes := 0,
    flagged := 0, oversize := 0, errors := 0 }

/-- The holdoff modes (R150). -/
inductive HoldoffMode where
  | off
  | oneshot
  | repeating
deriving DecidableEq, Repr

/-- A holdoff timer with its settings (R150). `interval` is the µs of the time base counted since the
last load or tick (R151, R180). -/
structure Timer where
  mode : HoldoffMode
  threshold : Nat
  reload : Nat
  prescale : Nat
  counter : Nat
  running : Bool
  held : Nat
  interval : Nat
deriving DecidableEq, Repr

/-- The holdoff timer after either reset (R38, R150). -/
def Timer.reset : Timer :=
  { mode := .off, threshold := 1, reload := 0, prescale := 0, counter := 0, running := false,
    held := 0, interval := 0 }

/-- A lane sequencer (chapter 2) with its holdoff timer. `docket` is the address the check follows and,
while a docket is held, the docket's address; `copy` is the docket copy (R9, R11); `startDue` says that
a START waits for the stop or fault write in flight before it reads its host half (R27, R34). -/
structure Lane where
  state : LaneState
  postLatch : Bool
  stopPending : Bool
  cursor : Addr
  docket : Addr
  copy : Option (List Byte)
  holds : Bool
  request : Option LaneRequest
  startDue : Bool
  storeRequest : Option StoreRequest
  report : Option Report
  condition : LaneCondition
  finished : Word
  skipped : Word
  faults : Word
  lastFault : FaultCode
  lastFaultDocket : Addr
  lastSequence : Word
  bundle : Bundle
  timer : Timer
deriving DecidableEq, Repr

/-- A lane after either reset (R38). -/
def Lane.reset : Lane :=
  { state := .idle, postLatch := false, stopPending := false, cursor := 0, docket := 0, copy := none,
    holds := false, request := none, startDue := false, storeRequest := none, report := none,
    condition := .stopped, finished := 0, skipped := 0, faults := 0, lastFault := .none,
    lastFaultDocket := 0, lastSequence := 0, bundle := Bundle.reset, timer := Timer.reset }

/-! ### Profile store -/

/-- The sixteen fields of a profile, in index order (R121). -/
structure Profile where
  outDpi : Nat
  contrast : Nat
  tFloor : Nat
  tCeil : Nat
  bgStart : Nat
  inkGap : Nat
  kTrack : Nat
  runOrder : Nat
  fallbackLimit : Nat
  bytesLow : Nat
  bytesHigh : Nat
  inkLow : Nat
  inkHigh : Nat
  bgLow : Nat
  bgHigh : Nat
  streakLimit : Nat
deriving DecidableEq, Repr

/-- The defaults of R121. -/
def Profile.reset : Profile :=
  { outDpi := 200, contrast := 48, tFloor := 40, tCeil := 220, bgStart := 224, inkGap := 48,
    kTrack := 3, runOrder := 1, fallbackLimit := 2, bytesLow := 512, bytesHigh := 65536,
    inkLow := 2, inkHigh := 300, bgLow := 96, bgHigh := 255, streakLimit := 4 }

/-- A profile with its generation count (R120, R122). A unit's snapshot is a copy of one (R48). -/
structure ProfileVersion where
  fields : Profile
  generation : BitVec 16
deriving DecidableEq, Repr

/-- The profile store (R120). -/
structure ProfileStore where
  profiles : Vector ProfileVersion 16
  stageList : List StageEntry
deriving DecidableEq, Repr

/-- The profile store after a cold reset (R137). -/
def ProfileStore.reset : ProfileStore :=
  { profiles := Vector.replicate 16 { fields := Profile.reset, generation := 0 }, stageList := [] }

/-! ### Reduction units -/

/-- The side statuses (R56, R181). -/
inductive SideStatus where
  | coded
  | oversize
  | readError
  | writeError
  | notRun
  | absent
deriving DecidableEq, Repr

/-- The eight flags of a side (R113, R114). -/
structure SideFlags where
  inkLow : Bool
  inkHigh : Bool
  bgLow : Bool
  bgHigh : Bool
  small : Bool
  streak : Bool
  oversize : Bool
  fallback : Bool
deriving DecidableEq, Repr

/-- A side result (R56, R108). -/
structure SideResult where
  status : SideStatus
  offset : Nat
  step : Nat
  wo : Nat
  ho : Nat
  byteCount : Nat
  ink : Nat
  background : Nat
  streaks : Nat
  flags : SideFlags
deriving DecidableEq, Repr

/-- A source-row read of an attempt: bytes `off` to `off + len − 1` of source row `row`. `bytes` is
`none` while the read is in flight and holds what it returned until the row is taken (R64). -/
structure SourceRead where
  row : Nat
  off : Nat
  len : Nat
  address : Addr
  bytes : Option (List Byte)
deriving DecidableEq, Repr

/-- An output write in flight: the bytes of the attempt from byte `index` (R100, R104). -/
structure OutputWrite where
  index : Nat
  address : Addr
  bytes : List Byte
deriving DecidableEq, Repr

/-- A column accumulator (R75). -/
structure Accumulator where
  sum : Nat
  count : Nat
deriving DecidableEq, Repr

/-- The bit packer (R100): `partialBits` is the byte under construction, first bit first, `waiting` the
completed bytes not yet sent, and `overBudget` says that oversize has been reported (R102). -/
structure Packer where
  byteCount : Nat
  partialBits : List Bool
  waiting : List Byte
  overBudget : Bool
deriving DecidableEq, Repr

/-- Where an attempt stands (R52): fetching and coding, or at one of its three endings with requests
still to end. -/
inductive AttemptPhase where
  | fetching
  | completed
  | oversize
  | failed (status : SideStatus)
deriving DecidableEq, Repr

/-- The side context of the attempt in progress (R43, R52). `nextRow` is the next source row to be taken
into the scaling and `readRow`, `readOff` the next source byte to be asked for (R64); `outRow` is the
next output row; `trackers` and `inkCounters` are b[x] and c[x] (R79); `previous` is the previous output
row, black being `true` (R93). -/
structure SideContext where
  step : Nat
  wo : Nat
  ho : Nat
  offset : Nat
  budget : Nat
  nextRow : Nat
  readRow : Nat
  readOff : Nat
  reads : List SourceRead
  writes : List OutputWrite
  accumulators : List Accumulator
  outRow : Nat
  trackers : List Nat
  inkCounters : List Nat
  previous : Option (List Bool)
  packer : Packer
  phase : AttemptPhase
deriving DecidableEq, Repr

/-- The item context of an admitted item: the lane, the unit's copy of the docket copy, the profile
number and the snapshot (R43, R48). -/
structure ItemContext where
  lane : LaneNo
  copy : List Byte
  profile : Fin 16
  snapshot : ProfileVersion
deriving DecidableEq, Repr

/-- A reduction unit in one of its five states, with the contexts it holds in that state (R43). In ADMIT,
`admitted` is the profile number once every admission check has passed and the snapshot is asked for. -/
inductive ReductionUnit where
  | idle
  | admitting (lane : LaneNo) (copy : List Byte) (admitted : Option (Fin 16))
  | front (item : ItemContext) (side : SideContext)
  | rear (item : ItemContext) (front : SideResult) (side : SideContext)
  | compose (item : ItemContext) (front rear : SideResult)
deriving DecidableEq, Repr

/-! ### Notice controller -/

/-- A set of notice sources (R156). -/
abbrev SourceSet := Vector Bool 9

/-- The empty set of sources. -/
abbrev SourceSet.empty : SourceSet := Vector.replicate 9 false

/-- The notice controller (R156) with message enable (R164) and its messages (R165): `inFlight` from a
rise of the condition until its write is issued, `due` for the one message behind it. `sent` and
`lastSent` are the model's own record of the message writes issued. -/
structure NoticeController where
  pending : SourceSet
  inService : SourceSet
  masked : SourceSet
  lowest : Source
  mode : NoticeMode
  messageEnable : Bool
  inFlight : Bool
  due : Bool
  sent : Nat
  lastSent : Option (Addr × Word)
deriving DecidableEq, Repr

/-- The notice controller after a cold reset (R167, R179). -/
def NoticeController.reset : NoticeController :=
  { pending := SourceSet.empty, inService := SourceSet.empty, masked := SourceSet.empty, lowest := 8,
    mode := .nested, messageEnable := false, inFlight := false, due := false, sent := 0,
    lastSent := none }

/-! ### The whole block -/

/-- The state of the WB-840. `pending` is the queue of commands that wait, first in, first out;
`readData` is what the last window read returned; `draws` counts the draws of the free sizing values of
Config; `epoch` counts the halts and the resets, each of which abandons every request in flight (R36, R37, R60);
these four are the model's own fields. -/
structure State where
  pending : List Instr
  engine : EngineState
  haltCause : HaltCause
  dropped : Bool
  area : Addr
  lanes : Vector Lane 8
  requests : Vector Bool 8
  rotation : LaneNo
  dispatchMode : DispatchMode
  units : Vector ReductionUnit 2
  store : ProfileStore
  notice : NoticeController
  timeBase : Nat
  readData : List Byte
  draws : Nat
  epoch : Nat
deriving DecidableEq, Repr

/-- The machine right after a cold reset (R179, with R38, R42, R43, R137, R167). -/
def State.reset : State :=
  { pending := [], engine := .disabled, haltCause := .none, dropped := false, area := 0,
    lanes := Vector.replicate 8 Lane.reset, requests := Vector.replicate 8 false, rotation := 7,
    dispatchMode := .fixed, units := Vector.replicate 2 ReductionUnit.idle,
    store := ProfileStore.reset, notice := NoticeController.reset, timeBase := 0, readData := [],
    draws := 0, epoch := 0 }

end Sys2Proof.Machine
end

