-- ==== Sys2Proof/Machine/Bytes.lean ====
section
/-! DEFINITION. Byte order and field access of host-memory records: multi-byte fields are little-endian
(00_scope.md, Conventions; R181). -/

namespace Sys2Proof.Machine

/-- The value of a little-endian field. -/
def leValue : List Byte → Nat
  | [] => 0
  | b :: bs => b.toNat + 256 * leValue bs

/-- The `n` bytes of a little-endian field that holds `v`. -/
def leBytes : Nat → Nat → List Byte
  | 0, _ => []
  | n + 1, v => BitVec.ofNat 8 v :: leBytes n (v / 256)

/-- The field of `size` bytes at offset `off` of a record. -/
def field (record : List Byte) (off size : Nat) : Nat :=
  leValue ((record.drop off).take size)

/-- `n` bytes of 0. -/
def zeros (n : Nat) : List Byte :=
  List.replicate n 0

/-- The 32-bit field at offset `off`. -/
def wordField (record : List Byte) (off : Nat) : Word :=
  BitVec.ofNat 32 (field record off 4)

/-- The 64-bit field at offset `off`. -/
def addrField (record : List Byte) (off : Nat) : Addr :=
  BitVec.ofNat 64 (field record off 8)

/-- The least integer not below x / n (00_scope.md, Conventions). -/
def ceilDiv (x n : Nat) : Nat :=
  (x + n - 1) / n

end Sys2Proof.Machine
end

