-- ==== Sys2Proof/Machine/Operands.lean ====
section
/-! DEFINITION. The record layouts of section 11.9: where the engine reads the fields of a docket copy and
of a host half, and the bytes it writes as a result section and as a device half (R181, R182). -/

namespace Sys2Proof.Machine

/-! ### State words and kinds (11.9.1) -/

/-- State word 0, EMPTY (R5). -/
def wordEmpty : Word := 0
/-- State word 1, POSTED. -/
def wordPosted : Word := 1
/-- State word 2, TAKEN. -/
def wordTaken : Word := 2
/-- State word 3, DONE. -/
def wordDone : Word := 3
/-- State word 4, REFUSED. -/
def wordRefused : Word := 4
/-- State word 5, WITHDRAWN. -/
def wordWithdrawn : Word := 5

/-- The docket kinds; `unknown` is any kind byte outside 1–4 (R4, R181). -/
inductive DocketKind where
  | item
  | openBundle
  | close
  | stage
  | unknown
deriving DecidableEq, Repr

/-- The kind of a docket copy, byte 0x04. -/
def docketKind (copy : List Byte) : DocketKind :=
  match field copy 0x04 1 with
  | 1 => .item
  | 2 => .openBundle
  | 3 => .close
  | 4 => .stage
  | _ => .unknown

/-- The sequence number, bytes 0x08–0x0B. -/
def docketSequence (copy : List Byte) : Word :=
  wordField copy 0x08

/-- The profile number of an ITEM or a STAGE, byte 0x18 (R45, R127). -/
def docketProfile (copy : List Byte) : Nat :=
  field copy 0x18 1

/-- The bundle id of an OPEN or a CLOSE, bytes 0x18–0x1B (R140, R142). -/
def docketBundleId (copy : List Byte) : Word :=
  wordField copy 0x18

/-! ### ITEM (11.9.2) -/

/-- Whether the ITEM has a rear side: byte 0x19 is not 0 (R45). -/
def itemRearPresent (copy : List Byte) : Bool :=
  field copy 0x19 1 != 0

/-- The output address (R45). -/
def itemOutputAddress (copy : List Byte) : Addr :=
  addrField copy 0x20

/-- The output capacity (R45). -/
def itemCapacity (copy : List Byte) : Nat :=
  field copy 0x28 4

/-- A side descriptor as the unit interprets it (R61). -/
structure SideDescriptor where
  source : Addr
  stride : Nat
  ws : Nat
  hs : Nat
  dsrc : Nat
  depth : Nat
  inverted : Bool
deriving DecidableEq, Repr

/-- The side descriptor at `base` of a docket copy. -/
def sideDescriptor (copy : List Byte) (base : Nat) : SideDescriptor :=
  { source := addrField copy base
    stride := field copy (base + 0x08) 4
    ws := field copy (base + 0x0C) 2
    hs := field copy (base + 0x0E) 2
    dsrc := field copy (base + 0x10) 2
    depth := field copy (base + 0x12) 1
    inverted := field copy (base + 0x13) 1 != 0 }

/-- The front side descriptor, at 0x30. -/
def frontDescriptor (copy : List Byte) : SideDescriptor :=
  sideDescriptor copy 0x30

/-- The rear side descriptor, at 0x50. -/
def rearDescriptor (copy : List Byte) : SideDescriptor :=
  sideDescriptor copy 0x50

/-! ### STAGE (11.9.4) -/

/-- The triggers of a STAGE docket (R127). -/
inductive StageTrigger where
  | now
  | atOpen
  | cancel
  | unknown
deriving DecidableEq, Repr

/-- The trigger, byte 0x19. -/
def stageTrigger (copy : List Byte) : StageTrigger :=
  match field copy 0x19 1 with
  | 1 => .now
  | 2 => .atOpen
  | 3 => .cancel
  | _ => .unknown

/-- The trigger lane, byte 0x1A. -/
def stageTriggerLane (copy : List Byte) : Nat :=
  field copy 0x1A 1

/-- The mask and the sixteen values (R127). -/
def stageUpdate (copy : List Byte) : Update :=
  { mask := BitVec.ofNat 16 (field copy 0x1C 2)
    values := Vector.ofFn fun i => wordField copy (0x20 + 4 * i.val) }

/-! ### Codes -/

/-- The refusal code byte (11.9.1). -/
def RefusalCode.code : RefusalCode → Nat
  | .none => 0
  | .kind => 1
  | .profile => 2
  | .output => 3
  | .geometry => 4
  | .resolution => 5
  | .depth => 6
  | .stride => 7
  | .trigger => 8
  | .slotsFull => 9
  | .bundleState => 10
  | .bundleId => 11

/-- The item outcome byte (11.9.2). -/
def ItemOutcome.code : ItemOutcome → Nat
  | .ok => 1
  | .flagged => 2
  | .oversize => 3
  | .readError => 4
  | .writeError => 5

/-- The side status byte (11.9.2). -/
def SideStatus.code : SideStatus → Nat
  | .coded => 1
  | .oversize => 2
  | .readError => 3
  | .writeError => 4
  | .notRun => 5
  | .absent => 6

/-- The lane condition byte (11.9.5). -/
def LaneCondition.code : LaneCondition → Nat
  | .running => 1
  | .stopped => 2
  | .faulted => 3

/-- The last fault code byte (11.9.5). -/
def FaultCode.code : FaultCode → Nat
  | .none => 0
  | .linkRead => 1
  | .badLink => 2
  | .badState => 3
  | .claimFailed => 4
  | .resultWrite => 5

/-- The side flags field: bit 0 INK_LOW up to bit 7 FALLBACK (11.9.2). -/
def SideFlags.code (f : SideFlags) : Nat :=
  f.inkLow.toNat + 2 * f.inkHigh.toNat + 4 * f.bgLow.toNat + 8 * f.bgHigh.toNat
    + 16 * f.small.toNat + 32 * f.streak.toNat + 64 * f.oversize.toNat + 128 * f.fallback.toNat

/-! ### Result sections: the kind-specific bytes 0xA5–0xFF -/

/-- The 32 bytes of a side result (11.9.2). -/
def sideResultBytes (r : SideResult) : List Byte :=
  leBytes 1 r.status.code ++ leBytes 1 r.step ++ leBytes 2 r.flags.code ++ leBytes 4 r.offset
    ++ leBytes 2 r.wo ++ leBytes 2 r.ho ++ leBytes 4 r.byteCount ++ leBytes 2 r.ink
    ++ leBytes 1 r.background ++ zeros 1 ++ leBytes 2 r.streaks ++ zeros 10

/-- The result bytes of a REFUSED docket: all 0 (R181). -/
def refusedResultBytes : List Byte :=
  zeros 91

/-- The result bytes of a DONE ITEM (11.9.2). -/
def itemResultBytes (outcome : ItemOutcome) (unit : UnitNo) (profile : Fin 16)
    (generation : BitVec 16) (front rear : SideResult) : List Byte :=
  leBytes 1 outcome.code ++ leBytes 1 unit.val ++ leBytes 1 profile.val
    ++ leBytes 2 generation.toNat ++ zeros 6 ++ sideResultBytes front ++ sideResultBytes rear
    ++ zeros 16

/-- The result bytes of a DONE OPEN (11.9.3). -/
def openResultBytes (applied : Nat) : List Byte :=
  leBytes 1 applied ++ zeros 90

/-- The result bytes of a DONE CLOSE: the bundle id and the seven counters (11.9.3, R143). -/
def closeResultBytes (b : Bundle) : List Byte :=
  zeros 3 ++ leBytes 4 b.id.toNat ++ leBytes 4 b.itemsDone.toNat ++ leBytes 4 b.itemsRefused.toNat
    ++ leBytes 4 b.sidesCoded.toNat ++ leBytes 4 b.bytes.toNat ++ leBytes 4 b.flagged.toNat
    ++ leBytes 4 b.oversize.toNat ++ leBytes 4 b.errors.toNat ++ zeros 56

/-- The result bytes of a DONE STAGE (11.9.4). -/
def stageResultBytes (generation : BitVec 16) (count : Nat) : List Byte :=
  zeros 3 ++ leBytes 2 generation.toNat ++ leBytes 1 count ++ zeros 85

/-- The whole result section, bytes 0xA0–0xFF: the sequence number echo, the refusal code and the
kind-specific bytes (R181). -/
def resultSection (sequence : Word) (r : Report) : List Byte :=
  leBytes 4 sequence.toNat ++ leBytes 1 r.refusal.code ++ r.result

/-- The state word of step 2 of the report: DONE, or REFUSED under a refusal code (R16). -/
def Report.stateWord (r : Report) : Word :=
  if r.refusal = .none then wordDone else wordRefused

/-! ### Lane record (11.9.5) -/

/-- The device half of a lane: its 64 bytes from the lane's own copies (R3, R182). -/
def Lane.deviceHalf (l : Lane) : List Byte :=
  leBytes 8 l.cursor.toNat ++ leBytes 1 l.condition.code ++ leBytes 1 l.lastFault.code
    ++ leBytes 1 l.bundle.isOpen.toNat ++ zeros 1 ++ leBytes 4 l.bundle.id.toNat
    ++ leBytes 4 l.finished.toNat ++ leBytes 4 l.skipped.toNat ++ leBytes 4 l.faults.toNat
    ++ leBytes 4 l.lastSequence.toNat ++ leBytes 8 l.lastFaultDocket.toNat ++ zeros 24

/-- The holdoff mode of a host half, byte 0x08; any value but 1 and 2 is OFF (R150, R182). -/
def hostHoldoffMode (half : List Byte) : HoldoffMode :=
  match field half 0x08 1 with
  | 1 => .oneshot
  | 2 => .repeating
  | _ => .off

/-- The holdoff threshold, byte 0x09, a 0 being taken as 1 (R150). -/
def hostThreshold (half : List Byte) : Nat :=
  max 1 (field half 0x09 1)

/-- The prescale exponent, the low four bits of byte 0x0A, 15 being taken as 14 (R150, R182). -/
def hostPrescale (half : List Byte) : Nat :=
  min 14 (field half 0x0A 1 % 16)

/-- The holdoff reload, bytes 0x0C–0x0D (R150). -/
def hostReload (half : List Byte) : Nat :=
  field half 0x0C 2

/-- The address of lane record `n` of the work area at `area` (R1). -/
def recordAddress (area : Addr) (n : LaneNo) : Addr :=
  area + BitVec.ofNat 64 (128 * n.val)

end Sys2Proof.Machine
end

