-- ==== Sys2Proof/Machine/Holdoff.lean ====
section
/-! DEFINITION. The holdoff timer (section 10.1). -/

namespace Sys2Proof.Machine

/-- A load: the counter takes R and the 2^p µs interval begins again (R151). -/
def Timer.load (t : Timer) : Timer :=
  { t with counter := t.reload, interval := 0 }

/-- Step 2 of the start sequence: the settings from the host half with their clamps, and the load, which
starts the timer in REPEAT mode alone (R23, R150). -/
def Timer.configure (t : Timer) (half : List Byte) : Timer :=
  { t with
    mode := hostHoldoffMode half
    threshold := hostThreshold half
    reload := hostReload half
    prescale := hostPrescale half
    counter := hostReload half
    running := decide (hostHoldoffMode half = .repeating)
    interval := 0 }

/-- The entry to STOPPED or FAULTED: stopped, with the held count cleared (R154). -/
def Timer.rest (t : Timer) : Timer :=
  { t with running := false, held := 0 }

/-- The entry to HALTED: stopped, with the held count kept (R154). -/
def Timer.freeze (t : Timer) : Timer :=
  { t with running := false }

/-- A completion event: the timer after it, and whether it raises the lane's source (R152). -/
def Timer.completion (t : Timer) : Timer × Bool :=
  match t.mode with
  | .off => ({ t with held := 0 }, true)
  | .oneshot =>
    if t.threshold ≤ t.held + 1 then ({ t with held := 0, running := false }, true)
    else if t.running then ({ t with held := t.held + 1 }, false)
    else ({ t.load with held := t.held + 1, running := true }, false)
  | .repeating =>
    if t.threshold ≤ t.held + 1 then ({ t with held := 0 }, true)
    else ({ t with held := t.held + 1 }, false)

/-- An underflow: the timer after it, and whether it raises the lane's source (R153). -/
def Timer.underflow (t : Timer) : Timer × Bool :=
  match t.mode with
  | .off => (t, false)
  | .oneshot => ({ t with held := 0, running := false }, decide (0 < t.held))
  | .repeating => ({ t.load with held := 0 }, decide (0 < t.held))

/-- A tick of a running timer: a counter above 0 is decremented, and at 0 the tick is an underflow (R151). -/
def Timer.tick (t : Timer) : Timer × Bool :=
  if t.running then
    if 0 < t.counter then ({ t with counter := t.counter - 1, interval := 0 }, false)
    else t.underflow
  else (t, false)

/-- The underflow as an event of its own: nothing, unless the timer runs with its counter at 0 (R151, R153). -/
def Timer.underflowEvent (t : Timer) : Timer × Bool :=
  if t.running && t.counter == 0 then t.underflow else (t, false)

/-- One microsecond of the time base for a timer (R151, R180). -/
def Timer.microsecond (t : Timer) : Timer :=
  if t.running then { t with interval := t.interval + 1 } else t

/-- Whether the 2^p µs interval of a running timer has passed (R151). -/
def Timer.tickDue (t : Timer) : Bool :=
  t.running && decide (2 ^ t.prescale ≤ t.interval)

end Sys2Proof.Machine
end

