-- ==== Sys2Proof/Machine/Notices.lean ====
section
/-! DEFINITION. The notice controller: ranking, eligibility, the line, TAKE, the NOTICE commands and the
message (sections 10.2 and 10.3). -/

namespace Sys2Proof.Machine

/-- The nine sources from the highest priority to the lowest: L + 1, L + 2, … modulo 9 (R157). -/
def sourceRanking (lowest : Source) : List Source :=
  (List.finRange 9).map fun i => lowest + 1 + i

/-- The place of source `s` in the ranking from L, 0 being the highest (R157). -/
def sourceRank (lowest s : Source) : Nat :=
  (s.val + 8 - lowest.val) % 9

/-- The highest-ranked source of those that satisfy `p`. -/
def highest (lowest : Source) (p : Source → Bool) : Option Source :=
  (sourceRanking lowest).find? p

/-- Whether source `s` ranks above every source in service (R158). -/
def NoticeController.aboveService (c : NoticeController) (s : Source) : Bool :=
  decide (∀ t : Source, c.inService[t] = true → sourceRank c.lowest s < sourceRank c.lowest t)

/-- Whether source `s` is eligible (R158). -/
def NoticeController.eligible (c : NoticeController) (s : Source) : Bool :=
  c.pending[s] && !c.masked[s] &&
    match c.mode with
    | .nested => c.aboveService s
    | .autoEnd => true

/-- The highest-ranked eligible source: what a TAKE would return (R159, R160). -/
def NoticeController.peek (c : NoticeController) : Option Source :=
  highest c.lowest c.eligible

/-- The line condition: at least one source is eligible (R158). -/
def NoticeController.line (c : NoticeController) : Bool :=
  decide (∃ s : Source, c.eligible s = true)

/-- The number that shows a source, with 15 for NONE (R159, R160). -/
def sourceNumber : Option Source → Nat
  | some s => s.val
  | none => 15

/-- "Line condition true and message enable set" (R164). -/
def NoticeController.condition (c : NoticeController) : Bool :=
  c.line && c.messageEnable

/-- A rise of the condition makes one message due; behind one in flight at most one is due (R164, R165). -/
def NoticeController.makeDue (c : NoticeController) : NoticeController :=
  if c.inFlight then { c with due := true } else { c with inFlight := true }

/-- A change of the controller, taken whole: the condition is re-evaluated after it (R158, R164). -/
def NoticeController.become (c c' : NoticeController) : NoticeController :=
  if !c.condition && c'.condition then c'.makeDue else c'

/-- A raise of source `s` (R156). -/
def NoticeController.raise (c : NoticeController) (s : Source) : NoticeController :=
  c.become { c with pending := c.pending.set s true }

/-- A TAKE of an eligible source `s` (R159). -/
def NoticeController.takeSource (c : NoticeController) (s : Source) : NoticeController :=
  c.become
    { c with
      pending := c.pending.set s false
      inService := match c.mode with
        | .nested => c.inService.set s true
        | .autoEnd => c.inService }

/-- A TAKE: nothing changes when no source is eligible (R159). -/
def NoticeController.take (c : NoticeController) : NoticeController :=
  match c.peek with
  | some s => c.takeSource s
  | none => c

/-- The highest-ranked source in the in-service set, masked or not (R161). -/
def NoticeController.topService (c : NoticeController) : Option Source :=
  highest c.lowest fun s => c.inService[s]

/-- END s (R161). -/
def NoticeController.endSource (c : NoticeController) (s : Source) : NoticeController :=
  c.become { c with inService := c.inService.set s false }

/-- END-ANY (R161). -/
def NoticeController.endAny (c : NoticeController) : NoticeController :=
  match c.topService with
  | some s => c.endSource s
  | none => c

/-- END-ANY-ROTATE (R161). -/
def NoticeController.endAnyRotate (c : NoticeController) : NoticeController :=
  match c.topService with
  | some s => c.become { c with inService := c.inService.set s false, lowest := s }
  | none => c

/-- LOWEST s (R162). -/
def NoticeController.setLowest (c : NoticeController) (s : Source) : NoticeController :=
  c.become { c with lowest := s }

/-- MASK s, or UNMASK s (R162). -/
def NoticeController.setMask (c : NoticeController) (s : Source) (on : Bool) : NoticeController :=
  c.become { c with masked := c.masked.set s on }

/-- The notice mode and message enable fields of one CONTROL write, taken as one change: a change of mode
empties the in-service set (R163, R164, R170). -/
def NoticeController.configure (c : NoticeController) (mode : NoticeMode) (enable : Bool) :
    NoticeController :=
  c.become
    { c with
      mode := mode
      messageEnable := enable
      inService := if mode = c.mode then c.inService else SourceSet.empty }

/-- The controller after an engine reset: its reset values, with message enable kept (R167, R178). -/
def NoticeController.engineReset (c : NoticeController) : NoticeController :=
  { NoticeController.reset with
    messageEnable := c.messageEnable, sent := c.sent, lastSent := c.lastSent }

/-- Whether a message's write can be issued (R165). -/
def outletOpen (o : MessageOutlet) : Bool :=
  o.msiEnabled && o.busMaster && o.linkUp

/-- The write of the message in flight is issued, or the message is lost; the one due behind it follows
(R165). -/
def NoticeController.issueMessage (c : NoticeController) (o : MessageOutlet) : NoticeController :=
  if c.inFlight then
    { c with
      inFlight := c.due
      due := false
      sent := if outletOpen o then c.sent + 1 else c.sent
      lastSent := if outletOpen o then some (o.address, o.data) else c.lastSent }
  else c

end Sys2Proof.Machine
end

