-- ==== Sys2Proof/Machine/Profiles.lean ====
section
/-! DEFINITION. The operations of the profile store: clamp, pair rule, application, and the stage list
(chapter 8). -/

namespace Sys2Proof.Machine

/-- A value clamped into [lo, hi] (R125). -/
def clampTo (lo hi v : Nat) : Nat :=
  min hi (max lo v)

/-- The value of the field of index `i` after stage 1: clamped when its mask bit is set, else kept (R124). -/
def Update.write (u : Update) (i : Fin 16) (lo hi old : Nat) : Nat :=
  if u.mask.getLsbD i.val then clampTo lo hi u.values[i].toNat else old

/-- Stage 1 of an application: the enabled fields, each clamped into its range (R121, R124, R125). -/
def Profile.writeFields (p : Profile) (u : Update) : Profile :=
  { outDpi := u.write 0 50 600 p.outDpi
    contrast := u.write 1 32 63 p.contrast
    tFloor := u.write 2 0 255 p.tFloor
    tCeil := u.write 3 0 255 p.tCeil
    bgStart := u.write 4 0 255 p.bgStart
    inkGap := u.write 5 0 255 p.inkGap
    kTrack := u.write 6 0 7 p.kTrack
    runOrder := u.write 7 0 3 p.runOrder
    fallbackLimit := u.write 8 0 2 p.fallbackLimit
    bytesLow := u.write 9 0 1048576 p.bytesLow
    bytesHigh := u.write 10 64 1048576 p.bytesHigh
    inkLow := u.write 11 0 1000 p.inkLow
    inkHigh := u.write 12 0 1000 p.inkHigh
    bgLow := u.write 13 0 255 p.bgLow
    bgHigh := u.write 14 0 255 p.bgHigh
    streakLimit := u.write 15 0 255 p.streakLimit }

/-- Stage 2 of an application: in each bound pair the upper value is raised to the lower (R126). -/
def Profile.orderPairs (p : Profile) : Profile :=
  { p with
    tCeil := max p.tFloor p.tCeil
    bytesHigh := max p.bytesLow p.bytesHigh
    inkHigh := max p.inkLow p.inkHigh
    bgHigh := max p.bgLow p.bgHigh }

/-- The three stages of an application (R124). -/
def ProfileVersion.applyUpdate (v : ProfileVersion) (u : Update) : ProfileVersion :=
  { fields := (v.fields.writeFields u).orderPairs, generation := v.generation + 1 }

/-- An application of an update to profile `p` (R124). -/
def ProfileStore.applyUpdate (st : ProfileStore) (p : Fin 16) (u : Update) : ProfileStore :=
  { st with profiles := st.profiles.set p (st.profiles[p].applyUpdate u) }

/-- The append of an entry at the end of the list (R130). -/
def ProfileStore.append (st : ProfileStore) (e : StageEntry) : ProfileStore :=
  { st with stageList := st.stageList ++ [e] }

/-- The removal of every entry that names profile `p` (R131). -/
def ProfileStore.cancel (st : ProfileStore) (p : Fin 16) : ProfileStore :=
  { st with stageList := st.stageList.filter fun e => e.profile ≠ p }

/-- The entries that wait for lane `n`, in list order (R133). -/
def ProfileStore.waitingFor (st : ProfileStore) (n : LaneNo) : List StageEntry :=
  st.stageList.filter fun e => e.lane = n

/-- The OPEN request of lane `n`: every entry that waits for it is applied, in list order, and removed (R133). -/
def ProfileStore.openLane (st : ProfileStore) (n : LaneNo) : ProfileStore :=
  (st.waitingFor n).foldl (fun acc e => acc.applyUpdate e.profile e.update)
    { st with stageList := st.stageList.filter fun e => e.lane ≠ n }

end Sys2Proof.Machine
end

