-- ==== Sys2Proof/Config.lean ====
section
/-! DEFINITION. What an implementation fixes: the sizing of a reduction unit's requests, which R51, R64
and R104 leave to the unit ("requests of the unit's own sizing"). The values are free: none has a body,
so no proof can rest on one. Each is applied to the draw number that State counts. -/

namespace Sys2Proof.Config

/-- How many source-row reads a unit is ready to issue at a draw (R64). -/
opaque readCount : Nat → Nat

/-- How many bytes the i-th read issued at a draw asks for, before the bounds of R64 (R64). -/
opaque readSize : Nat → Nat → Nat

/-- How many write requests a unit is ready to issue at a draw while its attempt goes on (R104). -/
opaque writeCount : Nat → Nat

/-- How many bytes the i-th write issued at a draw carries, before the bounds of R104 (R104). -/
opaque writeSize : Nat → Nat → Nat

end Sys2Proof.Config
end

