-- ==== Sys2Proof/Machine/Binarising.lean ====
section
/-! DEFINITION. Background tracking and binarisation (chapter 5). -/

namespace Sys2Proof.Machine

/-- The raw threshold T0 (R82 stage 1). -/
def rawThreshold (p : Profile) (b : Nat) : Nat :=
  b * p.contrast / 64

/-- The threshold T: T0 clamped into [t_floor, t_ceil] (R82 stage 2). -/
def threshold (p : Profile) (b : Nat) : Nat :=
  if rawThreshold p b < p.tFloor then p.tFloor
  else if p.tCeil < rawThreshold p b then p.tCeil
  else rawThreshold p b

/-- A pixel is black below its threshold (R83). -/
def isBlack (p : Profile) (b a : Nat) : Bool :=
  decide (a < threshold p b)

/-- The background-like test, on signed integers (R84). -/
def backgroundLike (p : Profile) (b a : Nat) : Bool :=
  decide ((b : Int) - (p.inkGap : Int) ≤ (a : Int))

/-- The tracker moved toward a background-like pixel by floor(|d| / 2^k_track) (R85). -/
def moveTracker (p : Profile) (b a : Nat) : Nat :=
  if b ≤ a then b + (a - b) / 2 ^ p.kTrack else b - (b - a) / 2 ^ p.kTrack

/-- The tracker after a pixel (R84, R85). -/
def nextTracker (p : Profile) (b a : Nat) : Nat :=
  if backgroundLike p b a then moveTracker p b a else b

/-- The ink counter after a pixel (R86). -/
def nextInkCounter (p : Profile) (b c a : Nat) : Nat :=
  if isBlack p b a then c + 1 else c

/-- What one row makes of its columns: the colours, black being `true`, the trackers and the ink counters. -/
structure BinarisedRow where
  colours : List Bool
  trackers : List Nat
  inkCounters : List Nat
deriving DecidableEq, Repr

/-- A grey row binarised against the trackers, column by column (R81). -/
def binariseRow (p : Profile) : List Nat → List Nat → List Nat → BinarisedRow
  | b :: bs, c :: cs, a :: as =>
    let rest := binariseRow p bs cs as
    { colours := isBlack p b a :: rest.colours
      trackers := nextTracker p b a :: rest.trackers
      inkCounters := nextInkCounter p b c a :: rest.inkCounters }
  | bs, cs, _ => { colours := [], trackers := bs, inkCounters := cs }

end Sys2Proof.Machine
end

