-- ==== Sys2Proof/Machine/Flags.lean ====
section
/-! DEFINITION. The measures of a side, its quality and status flags, and the item outcome (chapter 7 and
R57). -/

namespace Sys2Proof.Machine

/-- Ink per-mille (R109). -/
def inkPerMille (inkCounters : List Nat) (wo ho : Nat) : Nat :=
  1000 * inkCounters.sum / (wo * ho)

/-- Mean background (R110). -/
def meanBackground (trackers : List Nat) (wo : Nat) : Nat :=
  trackers.sum / wo

/-- Streak column count (R111). -/
def streakColumns (inkCounters : List Nat) (ho : Nat) : Nat :=
  inkCounters.countP fun c => decide (15 * ho ≤ 16 * c)

/-- No flag set. -/
def SideFlags.none : SideFlags :=
  { inkLow := false, inkHigh := false, bgLow := false, bgHigh := false, small := false,
    streak := false, oversize := false, fallback := false }

/-- The flags of a CODED side: the six bounds checks, and FALLBACK (R113, R114). -/
def codedFlags (p : Profile) (step ink background streaks byteCount : Nat) : SideFlags :=
  { inkLow := decide (ink < p.inkLow)
    inkHigh := decide (p.inkHigh < ink)
    bgLow := decide (background < p.bgLow)
    bgHigh := decide (p.bgHigh < background)
    small := decide (byteCount < p.bytesLow)
    streak := decide (p.streakLimit < streaks)
    oversize := false
    fallback := decide (0 < step) }

/-- The flags of a side that is not CODED (R114, R115). -/
def statusFlags (status : SideStatus) (step : Nat) : SideFlags :=
  { SideFlags.none with
    oversize := decide (status = .oversize), fallback := decide (0 < step) }

/-- Whether a side carries a quality flag (R57, R113). -/
def SideFlags.anyQuality (f : SideFlags) : Bool :=
  f.inkLow || f.inkHigh || f.bgLow || f.bgHigh || f.small || f.streak

/-- The result of a side that ends CODED: measured, checked against the snapshot and flagged (R56, R108). -/
def codedResult (p : Profile) (sd : SideContext) : SideResult :=
  let ink := inkPerMille sd.inkCounters sd.wo sd.ho
  let background := meanBackground sd.trackers sd.wo
  let streaks := streakColumns sd.inkCounters sd.ho
  { status := .coded, offset := sd.offset, step := sd.step, wo := sd.wo, ho := sd.ho,
    byteCount := sd.packer.byteCount, ink := ink, background := background, streaks := streaks,
    flags := codedFlags p sd.step ink background streaks sd.packer.byteCount }

/-- The result of a side that does not end CODED (R56, R115). -/
def uncodedResult (status : SideStatus) (offset step wo ho : Nat) : SideResult :=
  { status := status, offset := offset, step := step, wo := wo, ho := ho, byteCount := 0, ink := 0,
    background := 0, streaks := 0, flags := statusFlags status step }

/-- The result of a rear side that is not present (R56, R115). -/
def absentResult : SideResult :=
  uncodedResult .absent 0 0 0 0

/-- The result of a rear side whose front ended in error (R54, R56). -/
def notRunResult : SideResult :=
  uncodedResult .notRun 0 0 0 0

/-- Whether a side ended in READ_ERROR or WRITE_ERROR. -/
def SideStatus.isError (s : SideStatus) : Bool :=
  decide (s = .readError ∨ s = .writeError)

/-- The item outcome: the first of the four that holds (R57). -/
def itemOutcome (front rear : SideResult) : ItemOutcome :=
  if front.status = .readError ∨ rear.status = .readError then .readError
  else if front.status = .writeError ∨ rear.status = .writeError then .writeError
  else if front.status = .oversize ∨ rear.status = .oversize then .oversize
  else if front.flags.anyQuality || rear.flags.anyQuality then .flagged
  else .ok

/-- How many of the two sides are CODED (R145). -/
def codedSides (front rear : SideResult) : Nat :=
  (decide (front.status = .coded)).toNat + (decide (rear.status = .coded)).toNat

end Sys2Proof.Machine
end

