-- ==== Sys2Proof/Machine/RowCoding.lean ====
section
/-! DEFINITION. Row coding and the bit packer, and the host's decoding procedure for a coded stream
(chapter 6). Bits are Booleans, 1 being `true`; pixels are Booleans, black being `true`. -/

namespace Sys2Proof.Machine

/-! ### Row kinds and run lists -/

/-- The row kinds (R94). -/
inductive RowKind where
  | blank
  | same
  | runs
deriving DecidableEq, Repr

/-- The kind of an output row: the first test of R94 that holds. `same` is the kind REPEAT. -/
def rowKind (previous : Option (List Bool)) (row : List Bool) : RowKind :=
  if row.all (fun black => !black) then .blank
  else if previous = some row then .same
  else .runs

/-- The runs of a row from a point on, `n` pixels of `colour` having been counted (R96). -/
def runsFrom (colour : Bool) (n : Nat) : List Bool → List Nat
  | [] => [n]
  | pixel :: rest =>
    if pixel = colour then runsFrom colour (n + 1) rest else n :: runsFrom pixel 1 rest

/-- The run list of a RUNS row; its first run is white (R96). -/
def runList (row : List Bool) : List Nat :=
  runsFrom false 0 row

/-- The values of a run list: the first run itself, then each later run less 1 (R97). -/
def runValues : List Nat → List Nat
  | [] => []
  | r :: rs => r :: rs.map (· - 1)

/-- The `n` low bits of `m`, most significant first. -/
def msbBits : Nat → Nat → List Bool
  | 0, _ => []
  | n + 1, m => m.testBit n :: msbBits n m

/-- The exponential-Golomb code of order `k` of a value (R98). -/
def valueCode (k v : Nat) : List Bool :=
  let m := v + 2 ^ k
  let len := Nat.log2 m + 1
  List.replicate (len - 1 - k) false ++ msbBits len m

/-- The code bits of an output row (R94, R97). -/
def rowCode (k : Nat) (previous : Option (List Bool)) (row : List Bool) : List Bool :=
  match rowKind previous row with
  | .blank => [false]
  | .same => [true, false]
  | .runs => [true, true] ++ (runValues (runList row)).flatMap (valueCode k)

/-! ### The bit packer -/

/-- The packer at the start of an attempt (R100). -/
def Packer.fresh : Packer :=
  { byteCount := 0, partialBits := [], waiting := [], overBudget := false }

/-- The byte whose bits are given from bit 7 downward (R101). -/
def bitsToByte (bits : List Bool) : Byte :=
  BitVec.ofNat 8 (bits.foldl (fun acc b => 2 * acc + b.toNat) 0)

/-- A completed byte meets the budget: it is counted and waits, or oversize is reported and its bits are
discarded (R102). -/
def Packer.completeByte (budget : Nat) (k : Packer) (bits : List Bool) : Packer :=
  if k.byteCount + 1 ≤ budget then
    { k with byteCount := k.byteCount + 1, partialBits := [], waiting := k.waiting ++ [bitsToByte bits] }
  else { k with partialBits := [], overBudget := true }

/-- One bit appended; after oversize no further bit is appended (R101, R102). -/
def Packer.appendBit (budget : Nat) (k : Packer) (bit : Bool) : Packer :=
  if k.overBudget then k
  else if k.partialBits.length = 7 then k.completeByte budget (k.partialBits ++ [bit])
  else { k with partialBits := k.partialBits ++ [bit] }

/-- A code appended bit by bit (R101). -/
def Packer.append (budget : Nat) (k : Packer) (bits : List Bool) : Packer :=
  bits.foldl (Packer.appendBit budget) k

/-- The end of the stream: a partly filled byte is padded with zero bits and checked (R103). -/
def Packer.finish (budget : Nat) (k : Packer) : Packer :=
  if k.overBudget || k.partialBits.isEmpty then k
  else k.completeByte budget (k.partialBits ++ List.replicate (8 - k.partialBits.length) false)

/-! ### The whole stream of an attempt, and its decoding -/

/-- The code bits of the rows from a point on, `previous` being the row before (R95, R105). -/
def streamBits (k : Nat) : Option (List Bool) → List (List Bool) → List Bool
  | _, [] => []
  | previous, row :: rows => rowCode k previous row ++ streamBits k (some row) rows

/-- Leading zero bits counted up to the first 1, with the bits after that 1 (section 6.6, step 3). -/
def countZeros : Nat → List Bool → Option (Nat × List Bool)
  | _, [] => none
  | z, true :: bits => some (z, bits)
  | z, false :: bits => countZeros (z + 1) bits

/-- A value code read from the front of the bits (section 6.6, step 3). -/
def decodeValue (k : Nat) (bits : List Bool) : Option (Nat × List Bool) :=
  match countZeros 0 bits with
  | none => none
  | some (z, rest) =>
    if rest.length < z + k then none
    else
      let m := (rest.take (z + k)).foldl (fun acc b => 2 * acc + b.toNat) 1
      some (m - 2 ^ k, rest.drop (z + k))

/-- A run list read until the pixels reach `wo`; `fuel` bounds the number of runs (section 6.6, step 3). -/
def decodeRuns (k wo : Nat) : Nat → Bool → Bool → List Bool → List Bool → Option (List Bool × List Bool)
  | 0, _, _, _, _ => none
  | fuel + 1, isFirst, colour, pixels, bits =>
    match decodeValue k bits with
    | none => none
    | some (v, rest) =>
      let pixels' := pixels ++ List.replicate (if isFirst then v else v + 1) colour
      if pixels'.length < wo then decodeRuns k wo fuel false (!colour) pixels' rest
      else if pixels'.length = wo then some (pixels', rest)
      else none

/-- One row read from the bits (section 6.6, step 2). -/
def decodeRow (k wo : Nat) (previous : Option (List Bool)) :
    List Bool → Option (List Bool × List Bool)
  | false :: bits => some (List.replicate wo false, bits)
  | true :: false :: bits => previous.map fun row => (row, bits)
  | true :: true :: bits => decodeRuns k wo (wo + 1) true false [] bits
  | _ => none

/-- `ho` rows read from the bits; what is left over is the padding (section 6.6). -/
def decodeRows (k wo : Nat) : Nat → Option (List Bool) → List Bool → Option (List (List Bool) × List Bool)
  | 0, _, bits => some ([], bits)
  | ho + 1, previous, bits =>
    match decodeRow k wo previous bits with
    | none => none
    | some (row, rest) =>
      match decodeRows k wo ho (some row) rest with
      | none => none
      | some (rows, pad) => some (row :: rows, pad)

/-- The bits of a stream's bytes, bit 7 of each byte first (section 6.6, step 1). -/
def bytesToBits (bytes : List Byte) : List Bool :=
  bytes.flatMap fun b => msbBits 8 b.toNat

end Sys2Proof.Machine
end

