-- ==== Sys2Proof/Machine/Scaling.lean ====
section
/-! DEFINITION. Source rows and scaling: row addresses, pixel values, the output geometry and the group
average (chapter 4). -/

namespace Sys2Proof.Machine

/-- The number of used bytes of a source row (R62). -/
def SideDescriptor.usedBytes (d : SideDescriptor) : Nat :=
  ceilDiv (d.ws * d.depth) 8

/-- The address of byte `off` of source row `row`, modulo 2^64 (R62, R63). -/
def SideDescriptor.byteAddress (d : SideDescriptor) (row off : Nat) : Addr :=
  d.source + BitVec.ofNat 64 (row * d.stride + off)

/-- Source pixel `x` of a row's used bytes, on the scale 0–255: a whole byte at depth 8; at depth 4 the
high nibble for an even `x` and the low nibble for an odd one, times 17 (R67, R68). -/
def sourcePixel (depth : Nat) (row : List Byte) (x : Nat) : Nat :=
  if depth = 4 then
    let b := (row.getD (x / 2) 0).toNat
    (if x % 2 = 0 then b / 16 else b % 16) * 17
  else (row.getD x 0).toNat

/-- The grey value of a pixel after polarity (R69). -/
def greyValue (inverted : Bool) (v : Nat) : Nat :=
  if inverted then 255 - v else v

/-- The Ws grey values of a source row, in increasing x (R67–R69). -/
def SideDescriptor.greyRow (d : SideDescriptor) (row : List Byte) : List Nat :=
  (List.range d.ws).map fun x => greyValue d.inverted (sourcePixel d.depth row x)

/-- Dout_s = floor(out_dpi × (4 − s) / 4) (R70). -/
def outputDpi (outDpi step : Nat) : Nat :=
  outDpi * (4 - step) / 4

/-- An output dimension at Dout: the three stages of R71. -/
def outputSize (source dout dsrc : Nat) : Nat :=
  max (min (min (source * dout / dsrc) source) 2048) (ceilDiv source 4)

/-- The output width of a side at a fallback step (R71). -/
def SideDescriptor.outputWidth (d : SideDescriptor) (p : Profile) (step : Nat) : Nat :=
  outputSize d.ws (outputDpi p.outDpi step) d.dsrc

/-- The output height of a side at a fallback step (R71). -/
def SideDescriptor.outputHeight (d : SideDescriptor) (p : Profile) (step : Nat) : Nat :=
  outputSize d.hs (outputDpi p.outDpi step) d.dsrc

/-- The output column of source column `x`, or the output row of source row `x` (R73, R74). -/
def groupOf (source output x : Nat) : Nat :=
  x * output / source

/-- The first source column (row) of output column (row) `j` (R73, R74). -/
def groupStart (source output j : Nat) : Nat :=
  ceilDiv (j * source) output

/-- A grey value taken into an accumulator (R75). -/
def Accumulator.add (a : Accumulator) (grey : Nat) : Accumulator :=
  { sum := a.sum + grey, count := a.count + 1 }

/-- The accumulators of an output row at its start (R75). -/
def freshAccumulators (wo : Nat) : List Accumulator :=
  List.replicate wo { sum := 0, count := 0 }

/-- A source row's grey values from column `x` on, each added to the accumulator of its output column (R73, R75). -/
def accumulateFrom (ws wo : Nat) : Nat → List Nat → List Accumulator → List Accumulator
  | _, [], accs => accs
  | x, g :: gs, accs => accumulateFrom ws wo (x + 1) gs (accs.modify (groupOf ws wo x) (·.add g))

/-- The output grey value of a complete group: the rounded mean (R76). -/
def Accumulator.average (a : Accumulator) : Nat :=
  (a.sum + a.count / 2) / a.count

end Sys2Proof.Machine
end

