-- ==== Sys2Proof/Machine/Attempts.lean ====
section
/-! DEFINITION. One attempt at one side: its fresh side context, its requests to host memory, the taking of
source rows, and its three endings (R49 to R55, R64 to R66, R75 to R77, R89, R95, R100 to R104). -/

namespace Sys2Proof.Machine

/-- The side context at the start of an attempt at a step (R52, R75, R80, R93, R100). -/
def freshAttempt (d : SideDescriptor) (p : Profile) (offset budget step : Nat) : SideContext :=
  let wo := d.outputWidth p step
  { step := step, wo := wo, ho := d.outputHeight p step, offset := offset, budget := budget,
    nextRow := 0, readRow := 0, readOff := 0, reads := [], writes := [],
    accumulators := freshAccumulators wo, outRow := 0,
    trackers := List.replicate wo p.bgStart, inkCounters := List.replicate wo 0,
    previous := none, packer := Packer.fresh, phase := .fetching }

/-! ### Requests -/

/-- Whether a read of the attempt is in flight. -/
def SideContext.readInFlight (sd : SideContext) : Bool :=
  sd.reads.any fun r => r.bytes.isNone

/-- Whether every request of the attempt has ended (R52, R55). -/
def SideContext.quiet (sd : SideContext) : Bool :=
  !sd.readInFlight && sd.writes.isEmpty

/-- How many bytes a request carries that asks for `wanted` of `room` bytes: at least 1, at most the room. -/
def requestSize (wanted room : Nat) : Nat :=
  max 1 (min wanted room)

/-- One source-row read issued, of bytes of the one row `readRow` (R64). -/
def SideContext.issueRead (d : SideDescriptor) (wanted : Nat) (sd : SideContext) : SideContext :=
  let len := requestSize wanted (d.usedBytes - sd.readOff)
  let read : SourceRead :=
    { row := sd.readRow, off := sd.readOff, len := len,
      address := d.byteAddress sd.readRow sd.readOff, bytes := none }
  if sd.readOff + len < d.usedBytes then
    { sd with reads := sd.reads ++ [read], readOff := sd.readOff + len }
  else { sd with reads := sd.reads ++ [read], readRow := sd.readRow + 1, readOff := 0 }

/-- Up to `n` reads issued, in increasing order of row and byte; sizes from the free values (R64). -/
def SideContext.issueReads (d : SideDescriptor) (draw : Nat) : Nat → Nat → SideContext → SideContext
  | 0, _, sd => sd
  | n + 1, i, sd =>
    if sd.readRow < d.hs then
      SideContext.issueReads d draw n (i + 1) (sd.issueRead d (Config.readSize draw i))
    else sd

/-- The reads that an attempt still fetching issues: as many as the free value says, and at least one when
none is in flight (R64). -/
def SideContext.pumpReads (d : SideDescriptor) (draw : Nat) (sd : SideContext) : SideContext :=
  if sd.phase = .fetching then
    let n := if sd.readInFlight then Config.readCount draw else max 1 (Config.readCount draw)
    sd.issueReads d draw n 0
  else sd

/-- One output write issued, of the first of the waiting bytes (R51, R104). -/
def SideContext.issueWrite (out : Addr) (wanted : Nat) (sd : SideContext) : SideContext :=
  let len := requestSize wanted sd.packer.waiting.length
  let index := sd.packer.byteCount - sd.packer.waiting.length
  let write : OutputWrite :=
    { index := index, address := out + BitVec.ofNat 64 (sd.offset + index),
      bytes := sd.packer.waiting.take len }
  { sd with
    writes := sd.writes ++ [write]
    packer := { sd.packer with waiting := sd.packer.waiting.drop len } }

/-- Up to `n` output writes issued, in increasing byte order, while bytes wait (R104). -/
def SideContext.issueWrites (out : Addr) (draw : Nat) : Nat → Nat → SideContext → SideContext
  | 0, _, sd => sd
  | n + 1, i, sd =>
    if sd.packer.waiting.isEmpty then sd
    else SideContext.issueWrites out draw n (i + 1) (sd.issueWrite out (Config.writeSize draw i))

/-- The output writes issued at a step: as many as the free value says while the attempt goes on, and every
waiting byte once it has ended completed or oversize (R104). -/
def SideContext.pumpWrites (out : Addr) (draw : Nat) (sd : SideContext) : SideContext :=
  match sd.phase with
  | .fetching => sd.issueWrites out draw (Config.writeCount draw) 0
  | .completed => sd.issueWrites out draw sd.packer.waiting.length 0
  | .oversize => sd.issueWrites out draw sd.packer.waiting.length 0
  | .failed _ => sd

/-! ### Taking source rows -/

/-- The results of reads that have returned, dropped; what is left is in flight (R65). -/
def SideContext.dropReturned (sd : SideContext) : SideContext :=
  { sd with reads := sd.reads.filter fun r => r.bytes.isNone }

/-- Oversize: coding stops and no further read is issued (R65, R102, R107). -/
def SideContext.goOversize (sd : SideContext) : SideContext :=
  { sd.dropReturned with phase := .oversize }

/-- An error: the side will end with `status`, and the bytes not yet sent are discarded (R55, R104, R107). -/
def SideContext.fail (status : SideStatus) (sd : SideContext) : SideContext :=
  { sd.dropReturned with
    phase := .failed status
    packer := { sd.packer with partialBits := [], waiting := [] } }

/-- A row coded and appended: it becomes the previous row, and after row Ho − 1 the stream is ended; or the
packer reports oversize (R93 to R95, R102, R103). -/
def SideContext.codeRow (p : Profile) (row : List Bool) (sd : SideContext) : SideContext :=
  let packer := sd.packer.append sd.budget (rowCode p.runOrder sd.previous row)
  if packer.overBudget then { sd with packer := packer }.goOversize
  else
    let coded := { sd with packer := packer, previous := some row, outRow := sd.outRow + 1 }
    if sd.outRow + 1 < sd.ho then coded
    else
      let ended := packer.finish sd.budget
      if ended.overBudget then { coded with packer := ended }.goOversize
      else { coded with packer := ended, phase := .completed }

/-- A complete output row: averaged, handed to binarisation, and coded (R76, R77, R81, R89). -/
def SideContext.finishRow (p : Profile) (sd : SideContext) : SideContext :=
  let row := binariseRow p sd.trackers sd.inkCounters (sd.accumulators.map (·.average))
  { sd with
    accumulators := freshAccumulators sd.wo
    trackers := row.trackers
    inkCounters := row.inkCounters }.codeRow p row.colours

/-- Source row `nextRow` taken into the scaling; when it is the last of its output row, that row is complete
(R64, R74, R75). -/
def SideContext.takeRow (d : SideDescriptor) (p : Profile) (bytes : List Byte) (sd : SideContext) :
    SideContext :=
  let sd' :=
    { sd with
      nextRow := sd.nextRow + 1
      accumulators := accumulateFrom d.ws sd.wo 0 (d.greyRow bytes) sd.accumulators }
  if sd.nextRow + 1 = groupStart d.hs sd.ho (sd.outRow + 1) then sd'.finishRow p else sd'

/-- The used bytes of source row `nextRow` when all of them have returned, with the reads of later rows
(R64). -/
def SideContext.nextRowBytes (d : SideDescriptor) (sd : SideContext) :
    Option (List Byte × List SourceRead) :=
  let mine := sd.reads.takeWhile fun r => r.row == sd.nextRow
  let bytes := mine.flatMap fun r => r.bytes.getD []
  if mine.all (fun r => r.bytes.isSome) && bytes.length == d.usedBytes then
    some (bytes, sd.reads.dropWhile fun r => r.row == sd.nextRow)
  else none

/-- Every source row that is complete, with every row before it, taken in increasing order while the attempt
goes on (R64); `fuel` bounds their number. -/
def SideContext.takeRows (d : SideDescriptor) (p : Profile) : Nat → SideContext → SideContext
  | 0, sd => sd
  | fuel + 1, sd =>
    if sd.phase = .fetching then
      match sd.nextRowBytes d with
      | some (bytes, later) =>
        SideContext.takeRows d p fuel ({ sd with reads := later }.takeRow d p bytes)
      | none => sd
    else sd

/-! ### Ends of requests -/

/-- The read in flight of source row `row` from byte `off`. -/
def SideContext.findRead (sd : SideContext) (row off : Nat) : Option SourceRead :=
  sd.reads.find? fun r => r.row == row && r.off == off && r.bytes.isNone

/-- The read of source row `row` from byte `off` has returned `bytes`. -/
def SideContext.returnRead (row off : Nat) (bytes : List Byte) (sd : SideContext) : SideContext :=
  { sd with
    reads := sd.reads.map fun r =>
      if r.row = row ∧ r.off = off then { r with bytes := some bytes } else r }

/-- The read of source row `row` from byte `off` has ended and its result is discarded. -/
def SideContext.dropRead (row off : Nat) (sd : SideContext) : SideContext :=
  { sd with reads := sd.reads.filter fun r => ¬ (r.row = row ∧ r.off = off) }

/-- The write from byte `index` has ended. -/
def SideContext.dropWrite (index : Nat) (sd : SideContext) : SideContext :=
  { sd with writes := sd.writes.filter fun w => w.index ≠ index }

/-- The end of a source-row read. While the attempt fetches, its bytes are taken or its error ends the side;
later its result is discarded, an error included (R55, R64, R65). -/
def SideContext.readEnded (d : SideDescriptor) (p : Profile) (row off : Nat)
    (result : ReadEnd (List Byte)) (sd : SideContext) : SideContext :=
  match sd.phase, result with
  | .fetching, .ok bytes =>
    let sd' := sd.returnRead row off bytes
    sd'.takeRows d p sd'.reads.length
  | .fetching, .error => (sd.dropRead row off).fail .readError
  | _, _ => sd.dropRead row off

/-- The end of an output write. The first error the unit takes ends the side WRITE_ERROR, also while an
oversize attempt ends (R53, R55, R104). -/
def SideContext.writeEnded (index : Nat) (result : WriteEnd) (sd : SideContext) : SideContext :=
  match sd.phase, result with
  | .failed _, _ => sd.dropWrite index
  | _, .ok => sd.dropWrite index
  | _, .error => (sd.dropWrite index).fail .writeError

/-- The requests an attempt issues after it has taken an event: output writes, then source-row reads. -/
def SideContext.pump (d : SideDescriptor) (out : Addr) (draw : Nat) (sd : SideContext) : SideContext :=
  (sd.pumpWrites out draw).pumpReads d draw

/-- An attempt begun, with its first reads issued (R52, R64). -/
def beginAttempt (d : SideDescriptor) (p : Profile) (offset budget step draw : Nat) : SideContext :=
  (freshAttempt d p offset budget step).pumpReads d draw

/-- How an attempt whose requests have all ended leaves its side: a side result, or the next attempt of the
fallback ladder (R52, R53, R55, R56). -/
inductive AttemptEnd where
  | goesOn
  | restart
  | sideEnds (result : SideResult)
deriving DecidableEq, Repr

/-- Where an attempt leads: the ladder of R53 for an oversize one, a side result for the other endings, and
nothing yet while it fetches or a request of it is in flight (R52). -/
def SideContext.ending (p : Profile) (sd : SideContext) : AttemptEnd :=
  if sd.quiet then
    match sd.phase with
    | .fetching => .goesOn
    | .completed => .sideEnds (codedResult p sd)
    | .oversize =>
      if sd.step < p.fallbackLimit then .restart
      else .sideEnds (uncodedResult .oversize sd.offset sd.step sd.wo sd.ho)
    | .failed status => .sideEnds (uncodedResult status sd.offset sd.step sd.wo sd.ho)
  else .goesOn

end Sys2Proof.Machine
end

