-- ==== Sys2Proof/Machine/Units.lean ====
section
/-! DEFINITION. The reduction unit around its attempts: admission, output placement, the order of the sides
(R46 to R57). -/

namespace Sys2Proof.Machine

/-! ### Admission -/

/-- The sides of an ITEM that are present, the front first (R46). -/
def presentSides (copy : List Byte) : List SideDescriptor :=
  if itemRearPresent copy then [frontDescriptor copy, rearDescriptor copy] else [frontDescriptor copy]

/-- Check 3: a dimension lies outside 64–4096 (R46). -/
def SideDescriptor.badGeometry (d : SideDescriptor) : Bool :=
  decide (d.ws < 64 ∨ 4096 < d.ws ∨ d.hs < 64 ∨ 4096 < d.hs)

/-- Check 4: Dsrc lies outside 100–1200 (R46). -/
def SideDescriptor.badResolution (d : SideDescriptor) : Bool :=
  decide (d.dsrc < 100 ∨ 1200 < d.dsrc)

/-- Check 5: the depth is not 4 or 8 (R46). -/
def SideDescriptor.badDepth (d : SideDescriptor) : Bool :=
  decide (d.depth ≠ 4 ∧ d.depth ≠ 8)

/-- Check 6: the stride is below the row's used bytes or above 1,048,576 (R46). -/
def SideDescriptor.badStride (d : SideDescriptor) : Bool :=
  decide (d.stride < d.usedBytes ∨ 1048576 < d.stride)

/-- What admission decides: a refusal code, or the profile number to take a snapshot of (R46, R48). -/
inductive Admission where
  | refused (code : RefusalCode)
  | admitted (profile : Fin 16)
deriving DecidableEq, Repr

/-- The admission checks in the order of R46; the first that fails decides. -/
def admission (copy : List Byte) : Admission :=
  if h : docketProfile copy < 16 then
    if itemOutputAddress copy = 0 ∨ itemCapacity copy < 64 then .refused .output
    else if (presentSides copy).any (·.badGeometry) then .refused .geometry
    else if (presentSides copy).any (·.badResolution) then .refused .resolution
    else if (presentSides copy).any (·.badDepth) then .refused .depth
    else if (presentSides copy).any (·.badStride) then .refused .stride
    else .admitted ⟨docketProfile copy, h⟩
  else .refused .profile

/-! ### Placement and the order of the sides -/

/-- The front budget (R49). -/
def frontBudget (p : Profile) (capacity : Nat) : Nat :=
  min p.bytesHigh capacity

/-- The rear offset: the front's byte count rounded up to a multiple of 8 (R50). -/
def rearOffset (frontBytes : Nat) : Nat :=
  ceilDiv frontBytes 8 * 8

/-- The rear budget (R50). -/
def rearBudget (p : Profile) (capacity offset : Nat) : Nat :=
  if offset < capacity then min p.bytesHigh (capacity - offset) else 0

/-- The snapshot's fields. -/
def ItemContext.fields (it : ItemContext) : Profile :=
  it.snapshot.fields

/-- The entry to FRONT: the front is placed and its attempt at step 0 begins (R48, R49, R54). -/
def enterFront (it : ItemContext) (draw : Nat) : ReductionUnit :=
  .front it
    (beginAttempt (frontDescriptor it.copy) it.fields 0 (frontBudget it.fields (itemCapacity it.copy)) 0
      draw)

/-- The front side has ended with result `r`: the rear follows when it is present and `r` is no error; a
rear budget of 0 makes it OVERSIZE at once (R50, R54, R56). -/
def frontEnds (it : ItemContext) (r : SideResult) (draw : Nat) : ReductionUnit :=
  if itemRearPresent it.copy then
    if r.status.isError then .compose it r notRunResult
    else
      let offset := rearOffset r.byteCount
      let budget := rearBudget it.fields (itemCapacity it.copy) offset
      if budget = 0 then .compose it r (uncodedResult .oversize offset 0 0 0)
      else .rear it r (beginAttempt (rearDescriptor it.copy) it.fields offset budget 0 draw)
  else .compose it r absentResult

/-- A unit after an event of its attempt: the attempt goes on, restarts one step lower, or its side ends
(R53, R54). -/
def ReductionUnit.settle (draw : Nat) : ReductionUnit → ReductionUnit
  | .front it sd =>
    match sd.ending it.fields with
    | .goesOn => .front it sd
    | .restart =>
      .front it (beginAttempt (frontDescriptor it.copy) it.fields sd.offset sd.budget (sd.step + 1) draw)
    | .sideEnds r => frontEnds it r draw
  | .rear it f sd =>
    match sd.ending it.fields with
    | .goesOn => .rear it f sd
    | .restart =>
      .rear it f (beginAttempt (rearDescriptor it.copy) it.fields sd.offset sd.budget (sd.step + 1) draw)
    | .sideEnds r => .compose it f r
  | u => u

/-- The attempt in progress with its side descriptor and the item it belongs to. -/
def ReductionUnit.attempt : ReductionUnit → Option (ItemContext × SideDescriptor × SideContext)
  | .front it sd => some (it, frontDescriptor it.copy, sd)
  | .rear it _ sd => some (it, rearDescriptor it.copy, sd)
  | _ => none

/-- The unit with another side context in the side it is coding. -/
def ReductionUnit.withSide (sd : SideContext) : ReductionUnit → ReductionUnit
  | .front it _ => .front it sd
  | .rear it f _ => .rear it f sd
  | u => u

/-- Whether an ended read is one that the attempt has in flight, and, where it returned bytes, the number it
asked for. -/
def SideContext.accepts (sd : SideContext) (row off : Nat) (result : ReadEnd (List Byte)) : Bool :=
  match sd.findRead row off, result with
  | some r, .ok bytes => bytes.length == r.len
  | some _, .error => true
  | none, _ => false

/-- Whether an ended write is one that the attempt has in flight. -/
def SideContext.acceptsWrite (sd : SideContext) (index : Nat) : Bool :=
  sd.writes.any fun w => w.index == index

/-- The unit after the end of a source-row read, or `none` when it has no such read in flight (R64). -/
def ReductionUnit.readEnded (u : ReductionUnit) (row off : Nat) (result : ReadEnd (List Byte))
    (draw : Nat) : Option ReductionUnit :=
  match u.attempt with
  | some (it, d, sd) =>
    if sd.accepts row off result then
      let sd' := (sd.readEnded d it.fields row off result).pump d (itemOutputAddress it.copy) draw
      some ((u.withSide sd').settle draw)
    else none
  | none => none

/-- The unit after the end of an output write, or `none` when it has no such write in flight (R104). -/
def ReductionUnit.writeEnded (u : ReductionUnit) (index : Nat) (result : WriteEnd) (draw : Nat) :
    Option ReductionUnit :=
  match u.attempt with
  | some (it, d, sd) =>
    if sd.acceptsWrite index then
      let sd' := (sd.writeEnded index result).pump d (itemOutputAddress it.copy) draw
      some ((u.withSide sd').settle draw)
    else none
  | none => none

/-- The lane a unit is bound to (R43). -/
def ReductionUnit.lane? : ReductionUnit → Option LaneNo
  | .idle => none
  | .admitting n _ _ => some n
  | .front it _ => some it.lane
  | .rear it _ _ => some it.lane
  | .compose it _ _ => some it.lane

/-- Whether the unit is IDLE (R43). -/
def ReductionUnit.isIdle (u : ReductionUnit) : Bool :=
  match u with
  | .idle => true
  | _ => false

end Sys2Proof.Machine
end

