-- ==== Sys2Proof/Machine/Ops.lean ====
section
/-! DEFINITION. The shared operations of the lane sequencers, the dispatcher and the engine as a whole:
checks, stops, faults, reports, grants, the halt and the resets. -/

namespace Sys2Proof.Machine

/-! ### Bundle context (chapter 9) -/

/-- No bundle counted: every counter 0. -/
def Bundle.clearCounters (b : Bundle) : Bundle :=
  { b with
    itemsDone := 0, itemsRefused := 0, sidesCoded := 0, bytes := 0, flagged := 0, oversize := 0,
    errors := 0 }

/-- A DONE ITEM added to the counters, modulo 2^32 (R145). -/
def Bundle.addItem (b : Bundle) (outcome : ItemOutcome) (sides bytes : Nat) : Bundle :=
  { b with
    itemsDone := b.itemsDone + 1
    sidesCoded := b.sidesCoded + BitVec.ofNat 32 sides
    bytes := b.bytes + BitVec.ofNat 32 bytes
    flagged := if outcome = .flagged then b.flagged + 1 else b.flagged
    oversize := if outcome = .oversize then b.oversize + 1 else b.oversize
    errors := if outcome = .readError ∨ outcome = .writeError then b.errors + 1 else b.errors }

/-- The change a docket makes to the bundle context at step 3 of its report (R140, R143, R145). -/
def Bundle.change (b : Bundle) : BundleChange → Bundle
  | .none => b
  | .opened id => { b.clearCounters with isOpen := true, id := id }
  | .closed => { b.clearCounters with isOpen := false }
  | .itemRefused => if b.isOpen then { b with itemsRefused := b.itemsRefused + 1 } else b
  | .itemDone outcome sides bytes => if b.isOpen then b.addItem outcome sides bytes else b

/-! ### Lane sequencer (chapters 1 and 2) -/

/-- IDLE, STOPPED and FAULTED are the rest states (R20). -/
def LaneState.isRest : LaneState → Bool
  | .idle => true
  | .stopped => true
  | .faulted => true
  | .checking => false
  | .waiting => false
  | .holding => false
  | .active => false

/-- Whether the lane has a device-half write in flight (R3, R171). -/
def Lane.recordWriteInFlight (l : Lane) : Bool :=
  match l.request with
  | some (.recordWrite _ _ _) => true
  | _ => false

/-- The lane's copy of the docket, empty when it has none. -/
def Lane.copyBytes (l : Lane) : List Byte :=
  l.copy.getD []

/-- The lane issues its device-half write: the 64 bytes at 0x40 of its record, from its own copies (R3, R182). -/
def Lane.writeRecord (area : Addr) (n : LaneNo) (occasion : RecordOccasion) (l : Lane) : Lane :=
  { l with
    request := some (.recordWrite occasion (recordAddress area n + 0x40) l.deviceHalf) }

/-- The address of the current link: the anchor link, or the link field of the cursor docket (R6, R8). -/
def Lane.linkAddress (area : Addr) (n : LaneNo) (l : Lane) : Addr :=
  if l.cursor = 0 then recordAddress area n else l.cursor + 0x10

/-- A check begins: the link read is issued and the post latch cleared (R8). -/
def Lane.beginCheck (area : Addr) (n : LaneNo) (l : Lane) : Lane :=
  { l with
    state := .checking, postLatch := false, request := some (.linkRead (l.linkAddress area n)) }

/-- The entry to STOPPED (R27). -/
def Lane.enterStopped (area : Addr) (n : LaneNo) (l : Lane) : Lane :=
  { l with
    state := .stopped, postLatch := false, stopPending := false, timer := l.timer.rest,
    condition := .stopped }.writeRecord area n .stop

/-- A check boundary: STOPPED when stop pending is set, else a check begins (R25). -/
def Lane.checkBoundary (area : Addr) (n : LaneNo) (l : Lane) : Lane :=
  if l.stopPending then l.enterStopped area n else l.beginCheck area n

/-- A check that finds nothing: a check boundary when the post latch is set, else STOPPED or WAITING
(R8, R9, R25, R26). -/
def Lane.findNothing (area : Addr) (n : LaneNo) (l : Lane) : Lane :=
  if l.postLatch then l.checkBoundary area n
  else if l.stopPending then l.enterStopped area n
  else { l with state := .waiting, request := none }

/-- A lane fault, with its code and the docket address it reports (R33). -/
def Lane.fault (area : Addr) (n : LaneNo) (code : FaultCode) (docket : Addr) (l : Lane) : Lane :=
  { l with
    state := .faulted, postLatch := false, stopPending := false, copy := none, holds := false,
    report := none, storeRequest := none, timer := l.timer.rest, lastFault := code,
    lastFaultDocket := docket, faults := l.faults + 1,
    condition := .faulted }.writeRecord area n .fault

/-- The skip of the WITHDRAWN docket the check follows (R12). -/
def Lane.skip (area : Addr) (n : LaneNo) (l : Lane) : Lane :=
  { l with
    cursor := l.docket, skipped := l.skipped + 1, copy := none }.writeRecord area n .skip

/-- The host-half read of the start sequence (R23 step 1). -/
def Lane.readHostHalf (area : Addr) (n : LaneNo) (l : Lane) : Lane :=
  { l with request := some (.hostHalfRead (recordAddress area n)), startDue := false }

/-- A START taken in a rest state. The host-half read waits for a stop or fault write in flight (R23, R27,
R34). -/
def Lane.startSequence (area : Addr) (n : LaneNo) (l : Lane) : Lane :=
  let l' :=
    { l with
      state := .checking, stopPending := false,
      cursor := if l.state = LaneState.idle then 0 else l.cursor }
  if l.recordWriteInFlight then { l' with startDue := true } else l'.readHostHalf area n

/-- START (R22). -/
def Lane.takeStart (area : Addr) (n : LaneNo) (l : Lane) : Lane :=
  match l.state with
  | .idle => l.startSequence area n
  | .stopped => l.startSequence area n
  | .faulted => l.startSequence area n
  | .waiting => l.checkBoundary area n
  | .checking => { l with postLatch := true }
  | .holding => { l with postLatch := true }
  | .active => { l with postLatch := true }

/-- STOP (R22). -/
def Lane.takeStop (area : Addr) (n : LaneNo) (l : Lane) : Lane :=
  match l.state with
  | .idle => l
  | .stopped => l
  | .faulted => l
  | .waiting => l.enterStopped area n
  | .checking => { l with stopPending := true }
  | .holding => { l with stopPending := true }
  | .active => { l with stopPending := true }

/-- POST (R22). -/
def Lane.takePost (area : Addr) (n : LaneNo) (l : Lane) : Lane :=
  match l.state with
  | .idle => l
  | .stopped => l
  | .faulted => l
  | .waiting => l.checkBoundary area n
  | .checking => { l with postLatch := true }
  | .holding => { l with postLatch := true }
  | .active => { l with postLatch := true }

/-- The lane begins to report the docket it holds: ACTIVE, with the result section written at step 1 (R16). -/
def Lane.beginReport (r : Report) (l : Lane) : Lane :=
  { l with
    state := .active, storeRequest := none, report := some r,
    request := some (.resultWrite (l.docket + 0xA0) (resultSection (docketSequence l.copyBytes) r)) }

/-- A report of REFUSED with a code (R30). -/
def Lane.refuse (code : RefusalCode) (change : BundleChange) (l : Lane) : Lane :=
  l.beginReport { refusal := code, result := refusedResultBytes, change := change }

/-- A report of DONE with its result bytes. -/
def Lane.reportDone (result : List Byte) (change : BundleChange) (l : Lane) : Lane :=
  l.beginReport { refusal := .none, result := result, change := change }

/-- The lane goes ACTIVE with a request to the profile store (R29, R120). -/
def Lane.askStore (r : StoreRequest) (l : Lane) : Lane :=
  { l with state := .active, request := none, storeRequest := some r }

/-- The execution of an OPEN up to its store request (R140, R141). -/
def Lane.executeOpen (l : Lane) : Lane :=
  if l.bundle.isOpen then l.refuse .bundleState .none
  else l.askStore (.openBundle (docketBundleId l.copyBytes))

/-- The execution of a CLOSE (R142, R143). -/
def Lane.executeClose (l : Lane) : Lane :=
  if l.bundle.isOpen then
    if docketBundleId l.copyBytes = l.bundle.id then l.reportDone (closeResultBytes l.bundle) .closed
    else l.refuse .bundleId .none
  else l.refuse .bundleState .none

/-- The execution of a STAGE up to its store request: checks 1 and 2 on the docket copy (R128). -/
def Lane.executeStage (l : Lane) : Lane :=
  if hp : docketProfile l.copyBytes < 16 then
    match stageTrigger l.copyBytes with
    | .now => l.askStore (.now ⟨docketProfile l.copyBytes, hp⟩ (stageUpdate l.copyBytes))
    | .atOpen =>
      if hl : stageTriggerLane l.copyBytes < 8 then
        l.askStore
          (.atOpen
            { profile := ⟨docketProfile l.copyBytes, hp⟩, lane := ⟨stageTriggerLane l.copyBytes, hl⟩,
              update := stageUpdate l.copyBytes })
      else l.refuse .trigger .none
    | .cancel => l.askStore (.cancel ⟨docketProfile l.copyBytes, hp⟩)
    | .unknown => l.refuse .trigger .none
  else l.refuse .profile .none

/-- Step 3 of a report: the docket's changes to the lane's own copies, and the device-half write (R31). -/
def Lane.finishDocket (area : Addr) (n : LaneNo) (change : BundleChange) (l : Lane) : Lane :=
  { l with
    holds := false, cursor := l.docket, finished := l.finished + 1,
    lastSequence := docketSequence l.copyBytes,
    bundle := l.bundle.change change }.writeRecord area n .report

/-- The lane of a halted engine: whatever it had in flight is abandoned and its timer stops (R36, R154). -/
def Lane.freeze (l : Lane) : Lane :=
  { l with
    request := none, startDue := false, copy := none, holds := false, storeRequest := none,
    report := none, timer := l.timer.freeze }

/-! ### State -/

/-- The state with another lane `n`. -/
def State.setLane (s : State) (n : LaneNo) (l : Lane) : State :=
  { s with lanes := s.lanes.set n l }

/-- The state with another unit `u`. -/
def State.setUnit (s : State) (u : UnitNo) (r : ReductionUnit) : State :=
  { s with units := s.units.set u r }

/-- The state with another notice controller. -/
def State.setNotice (s : State) (c : NoticeController) : State :=
  { s with notice := c }

/-- The state with another profile store. -/
def State.setStore (s : State) (st : ProfileStore) : State :=
  { s with store := st }

/-- A write that the engine does not carry out sets the dropped flag (R175). -/
def State.drop (s : State) : State :=
  { s with dropped := true }

/-- The source of lane `n`: n + 1 (R156). -/
def laneSource (n : LaneNo) : Source :=
  n.succ

/-- A raise of a source in the notice controller (R156). -/
def State.raise (s : State) (src : Source) : State :=
  s.setNotice (s.notice.raise src)

/-- A raise of lane `n`'s source, when `raises` says so. -/
def State.raiseLaneIf (s : State) (n : LaneNo) (raises : Bool) : State :=
  if raises then s.raise (laneSource n) else s

/-- What an issuer has in flight as the end of a request issued in `epoch` finds it: nothing when a halt or a
reset has since abandoned that request (R36, R37, R60). -/
def State.stillInFlight {α : Type} (s : State) (epoch : Nat) (inFlight : Option α) : Option α :=
  if epoch = s.epoch then inFlight else none

/-- The entry to HALTED with cause RECORD_WRITE, as one change (R176). -/
def State.halt (s : State) : State :=
  { s with
    engine := .halted
    haltCause := .recordWrite
    units := Vector.replicate 2 .idle
    lanes := Vector.ofFn fun n => s.lanes[n].freeze
    requests := Vector.replicate 8 false
    notice := s.notice.raise 0
    epoch := s.epoch + 1 }

/-- The engine reset, as one change (R178, with R37, R42, R60, R137, R167). -/
def State.engineReset (s : State) : State :=
  { s with
    engine := .disabled
    haltCause := .none
    dropped := false
    lanes := Vector.replicate 8 Lane.reset
    requests := Vector.replicate 8 false
    rotation := 7
    units := Vector.replicate 2 .idle
    store := { s.store with stageList := [] }
    notice := s.notice.engineReset
    epoch := s.epoch + 1 }

/-- The cold reset: every register and block at its cold-reset value (R179). The queue and the counts of
draws and epochs are the model's own and go on. -/
def State.coldReset (s : State) : State :=
  { State.reset with pending := s.pending, draws := s.draws, epoch := s.epoch + 1 }

/-! ### Dispatcher (section 3.1) -/

/-- The unit a grant uses: unit 0 when it is IDLE, else unit 1 when it is IDLE (R41). -/
def State.freeUnit (s : State) : Option UnitNo :=
  if s.units[(0 : UnitNo)].isIdle then some 0
  else if s.units[(1 : UnitNo)].isIdle then some 1
  else none

/-- The lanes from the highest rank to the lowest (R41). -/
def laneRanking (mode : DispatchMode) (rotation : LaneNo) : List LaneNo :=
  match mode with
  | .fixed => List.finRange 8
  | .rotating => (List.finRange 8).map fun i => rotation + 1 + i

/-- The lane that wins a grant (R41). -/
def State.winner (s : State) : Option LaneNo :=
  (laneRanking s.dispatchMode s.rotation).find? fun n => s.requests[n]

/-- One grant: the unit copies the winning lane's docket copy and enters ADMIT, the lane enters ACTIVE, the
request leaves the set, and in ROTATING mode the pointer moves to the lane (R41, R44). No grant is made
unless the engine is RUNNING (R42). -/
def State.grant (s : State) : Option State :=
  if s.engine = .running then
    match s.freeUnit, s.winner with
    | some u, some n =>
      some
        { s with
          requests := s.requests.set n false
          rotation := if s.dispatchMode = .rotating then n else s.rotation
          units := s.units.set u (.admitting n s.lanes[n].copyBytes none)
          lanes := s.lanes.set n { s.lanes[n] with state := .active } }
    | _, _ => none
  else none

/-- Up to `fuel` grants, one after the other (R41). -/
def State.grantAll : Nat → State → State
  | 0, s => s
  | fuel + 1, s =>
    match s.grant with
    | some s' => State.grantAll fuel s'
    | none => s

/-- The admission of the item on unit `u`, when it is in ADMIT with its checks to be run: a refused item
goes back to its lane, which reports it, and the unit returns to IDLE (R46, R47). -/
def State.admitUnit (u : UnitNo) (s : State) : State :=
  match s.units[u] with
  | .admitting n copy none =>
    match admission copy with
    | .refused code =>
      (s.setUnit u .idle).setLane n (s.lanes[n].refuse code .itemRefused)
    | .admitted p => s.setUnit u (.admitting n copy (some p))
  | _ => s

/-- The dispatcher's work until no unit is IDLE or no request remains: grants to the IDLE units, then their
admissions, again while a refusal frees a unit (R41, R47); `fuel` bounds the rounds. -/
def State.dispatchRounds : Nat → State → State
  | 0, s => s
  | fuel + 1, s =>
    match s.grant with
    | none => s
    | some s' => State.dispatchRounds fuel (((s'.grantAll 1).admitUnit 0).admitUnit 1)

/-- The dispatcher after a request is placed or a unit returns to IDLE (R41). -/
def State.dispatch (s : State) : State :=
  s.dispatchRounds 9

/-- Lane `n` enters HOLDING and places its unit request (R28, R40). -/
def State.requestUnit (s : State) (n : LaneNo) (l : Lane) : State :=
  ({ s.setLane n { l with state := .holding, request := none } with
      requests := s.requests.set n true }).dispatch

/-- Unit `u` hands the item results back to the lane, which begins its report DONE, and returns to IDLE
(R57, R58). -/
def State.handBack (u : UnitNo) (it : ItemContext) (front rear : SideResult) (s : State) : State :=
  let outcome := itemOutcome front rear
  let result := itemResultBytes outcome u it.profile it.snapshot.generation front rear
  let change := BundleChange.itemDone outcome (codedSides front rear) (front.byteCount + rear.byteCount)
  ((s.setUnit u .idle).setLane it.lane (s.lanes[it.lane].reportDone result change)).dispatch

/-- The state after unit `u` has become `r`: one that has reached COMPOSE hands back at once (R54, R58). -/
def State.putUnit (u : UnitNo) (r : ReductionUnit) (s : State) : State :=
  match r with
  | .compose it front rear => (s.setUnit u r).handBack u it front rear
  | _ => s.setUnit u r

/-- The state after a draw of the free sizing values. -/
def State.nextDraw (s : State) : State :=
  { s with draws := s.draws + 1 }

end Sys2Proof.Machine
end

