-- ==== Sys2Proof/Machine/LaneEvents.lean ====
section
/-! DEFINITION. The ends of a lane's requests to host memory. The end of a
request that the lane does not have in flight is the result of an abandoned one, and it is discarded (R15, R36,
R37). -/

namespace Sys2Proof.Machine

/-- HOST_HALF_READ_DONE: steps 2 to 4 of the start sequence, or a LINK_READ fault that reports the cursor
(R23, R24). -/
def execHostHalfReadDone (n : LaneNo) (ended : Ended (ReadEnd (List Byte))) (s : State) :
    Host.Outcome State Fault Refusal :=
  let l := s.lanes[n]
  match s.stillInFlight ended.epoch l.request with
  | some (.hostHalfRead _) =>
    match ended.result with
    | .ok half =>
      .next (s.setLane n
        ({ l with timer := l.timer.configure half, condition := .running }.writeRecord s.area n .start))
    | .error => .next (s.setLane n (l.fault s.area n .linkRead l.cursor))
  | _ => .next s

/-- START_RECORD_WRITE_DONE: a check boundary, or the halt (R23, R24). -/
def execStartRecordWriteDone (n : LaneNo) (ended : Ended WriteEnd) (s : State) :
    Host.Outcome State Fault Refusal :=
  let l := s.lanes[n]
  match s.stillInFlight ended.epoch l.request with
  | some (.recordWrite .start _ _) =>
    match ended.result with
    | .ok => .next (s.setLane n (l.checkBoundary s.area n))
    | .error => .next s.halt
  | _ => .next s

/-- LINK_READ_DONE (R8). -/
def execLinkReadDone (n : LaneNo) (ended : Ended (ReadEnd Addr)) (s : State) :
    Host.Outcome State Fault Refusal :=
  let l := s.lanes[n]
  match s.stillInFlight ended.epoch l.request with
  | some (.linkRead _) =>
    match ended.result with
    | .ok v =>
      if v = 0 then .next (s.setLane n (l.findNothing s.area n))
      else if v.toNat % 64 ≠ 0 then .next (s.setLane n (l.fault s.area n .badLink v))
      else .next (s.setLane n { l with docket := v, request := some (.stateWordRead v) })
    | .error => .next (s.setLane n (l.fault s.area n .linkRead l.cursor))
  | _ => .next s

/-- STATE_WORD_READ_DONE (R9). -/
def execStateWordReadDone (n : LaneNo) (ended : Ended (ReadEnd Word)) (s : State) :
    Host.Outcome State Fault Refusal :=
  let l := s.lanes[n]
  match s.stillInFlight ended.epoch l.request with
  | some (.stateWordRead _) =>
    match ended.result with
    | .ok v =>
      if v = wordEmpty then .next (s.setLane n (l.findNothing s.area n))
      else if v = wordPosted then
        .next (s.setLane n { l with request := some (.docketRead (l.docket + 4)) })
      else if v = wordWithdrawn then .next (s.setLane n (l.skip s.area n))
      else .next (s.setLane n (l.fault s.area n .badState l.docket))
    | .error => .next (s.setLane n (l.fault s.area n .linkRead l.docket))
  | _ => .next s

/-- DOCKET_READ_DONE: the docket copy is complete and the claim is issued (R9, R10). -/
def execDocketReadDone (n : LaneNo) (ended : Ended (ReadEnd (List Byte))) (s : State) :
    Host.Outcome State Fault Refusal :=
  let l := s.lanes[n]
  match s.stillInFlight ended.epoch l.request with
  | some (.docketRead _) =>
    match ended.result with
    | .ok bytes =>
      .next (s.setLane n
        { l with
          copy := some (leBytes 4 wordPosted.toNat ++ bytes)
          request := some (.claim l.docket wordPosted wordTaken) })
    | .error => .next (s.setLane n (l.fault s.area n .linkRead l.docket))
  | _ => .next s

/-- A claimed docket acted on by the kind of its copy (R11). -/
def State.actOnKind (s : State) (n : LaneNo) (l : Lane) : State :=
  match docketKind l.copyBytes with
  | .item => s.requestUnit n l
  | .openBundle => s.setLane n l.executeOpen
  | .close => s.setLane n l.executeClose
  | .stage => s.setLane n l.executeStage
  | .unknown => s.setLane n (l.refuse .kind .none)

/-- CLAIM_DONE (R10). -/
def execClaimDone (n : LaneNo) (ended : Ended (ReadEnd Word)) (s : State) :
    Host.Outcome State Fault Refusal :=
  let l := s.lanes[n]
  match s.stillInFlight ended.epoch l.request with
  | some (.claim _ _ _) =>
    match ended.result with
    | .ok v =>
      if v = wordPosted then .next (s.actOnKind n { l with holds := true })
      else if v = wordWithdrawn then .next (s.setLane n (l.skip s.area n))
      else .next (s.setLane n (l.fault s.area n .badState l.docket))
    | .error => .next (s.setLane n (l.fault s.area n .claimFailed l.docket))
  | _ => .next s

/-- SKIP_WRITE_DONE: a check boundary, or the halt (R12, R25). -/
def execSkipWriteDone (n : LaneNo) (ended : Ended WriteEnd) (s : State) :
    Host.Outcome State Fault Refusal :=
  let l := s.lanes[n]
  match s.stillInFlight ended.epoch l.request with
  | some (.recordWrite .skip _ _) =>
    match ended.result with
    | .ok => .next (s.setLane n (l.checkBoundary s.area n))
    | .error => .next s.halt
  | _ => .next s

/-- RESULT_SECTION_WRITE_DONE: the end of step 1 of the report (R16, R17). -/
def execResultSectionWriteDone (n : LaneNo) (ended : Ended WriteEnd) (s : State) :
    Host.Outcome State Fault Refusal :=
  let l := s.lanes[n]
  match s.stillInFlight ended.epoch l.request, l.report with
  | some (.resultWrite _ _), some r =>
    match ended.result with
    | .ok => .next (s.setLane n { l with request := some (.stateWordWrite l.docket r.stateWord) })
    | .error => .next (s.setLane n (l.fault s.area n .resultWrite l.docket))
  | _, _ => .next s

/-- STATE_WORD_WRITE_DONE: the end of step 2 of the report, and step 3 (R16, R17, R31). -/
def execStateWordWriteDone (n : LaneNo) (ended : Ended WriteEnd) (s : State) :
    Host.Outcome State Fault Refusal :=
  let l := s.lanes[n]
  match s.stillInFlight ended.epoch l.request, l.report with
  | some (.stateWordWrite _ _), some r =>
    match ended.result with
    | .ok => .next (s.setLane n (l.finishDocket s.area n r.change))
    | .error => .next (s.setLane n (l.fault s.area n .resultWrite l.docket))
  | _, _ => .next s

/-- REPORT_RECORD_WRITE_DONE: the completion event, the docket copy discarded, and a check boundary; or the
halt (R16 step 4, R31, R152). -/
def execReportRecordWriteDone (n : LaneNo) (ended : Ended WriteEnd) (s : State) :
    Host.Outcome State Fault Refusal :=
  let l := s.lanes[n]
  match s.stillInFlight ended.epoch l.request with
  | some (.recordWrite .report _ _) =>
    match ended.result with
    | .ok =>
      let l' := { l with timer := l.timer.completion.1, copy := none, report := none }
      .next ((s.setLane n (l'.checkBoundary s.area n)).raiseLaneIf n l.timer.completion.2)
    | .error => .next s.halt
  | _ => .next s

/-- A stop or fault write has ended: the lane raises its source, and a START that waited for it reads the host
half (R27, R34). -/
def State.restWriteEnded (s : State) (n : LaneNo) (l : Lane) : State :=
  (s.setLane n (if l.startDue then l.readHostHalf s.area n else { l with request := none })).raise
    (laneSource n)

/-- STOP_RECORD_WRITE_DONE (R27). -/
def execStopRecordWriteDone (n : LaneNo) (ended : Ended WriteEnd) (s : State) :
    Host.Outcome State Fault Refusal :=
  let l := s.lanes[n]
  match s.stillInFlight ended.epoch l.request with
  | some (.recordWrite .stop _ _) =>
    match ended.result with
    | .ok => .next (s.restWriteEnded n l)
    | .error => .next s.halt
  | _ => .next s

/-- FAULT_RECORD_WRITE_DONE (R34). -/
def execFaultRecordWriteDone (n : LaneNo) (ended : Ended WriteEnd) (s : State) :
    Host.Outcome State Fault Refusal :=
  let l := s.lanes[n]
  match s.stillInFlight ended.epoch l.request with
  | some (.recordWrite .fault _ _) =>
    match ended.result with
    | .ok => .next (s.restWriteEnded n l)
    | .error => .next s.halt
  | _ => .next s

end Sys2Proof.Machine
end

