-- ==== Sys2Proof/Machine/Resets.lean ====
section
/-! DEFINITION. The events that no register and no request brings: the cold reset, the ticks of the holdoff
timers, and the message's write (R151, R153, R165, R179, R180). -/

namespace Sys2Proof.Machine

/-- COLD_RESET: the three causes have one effect (R179). -/
def execColdReset (_cause : ColdResetCause) (s : State) : Host.Outcome State Fault Refusal :=
  .next s.coldReset

/-- Lane `n`'s timer after an event of time, with the raise it makes (R151, R153). -/
def State.timerEvent (s : State) (n : LaneNo) (event : Timer → Timer × Bool) : State :=
  (s.setLane n { s.lanes[n] with timer := (event s.lanes[n].timer).1 }).raiseLaneIf n
    (event s.lanes[n].timer).2

/-- HOLDOFF_TICK (R151). -/
def execHoldoffTick (lane : LaneNo) (s : State) : Host.Outcome State Fault Refusal :=
  .next (s.timerEvent lane Timer.tick)

/-- HOLDOFF_UNDERFLOW (R153). -/
def execHoldoffUnderflow (lane : LaneNo) (s : State) : Host.Outcome State Fault Refusal :=
  .next (s.timerEvent lane Timer.underflowEvent)

/-- MESSAGE (R165). -/
def execMessage (outlet : MessageOutlet) (s : State) : Host.Outcome State Fault Refusal :=
  .next (s.setNotice (s.notice.issueMessage outlet))

/-- The tick of a timer whose interval has passed: an underflow when its counter is 0 (R151). -/
def tickCommand (n : LaneNo) (t : Timer) : Instr :=
  if t.counter = 0 then .holdoffUnderflow n else .holdoffTick n

/-- One microsecond of the time base, which is what an empty queue lets pass: every running timer's interval
grows, and the ticks that come due join the queue in lane order (R151, R180). -/
def State.microsecond (s : State) : State :=
  let lanes := Vector.ofFn fun n : LaneNo => { s.lanes[n] with timer := s.lanes[n].timer.microsecond }
  { s with
    timeBase := s.timeBase + 1
    lanes := lanes
    pending := s.pending ++
      ((List.finRange 8).filter fun n => lanes[n].timer.tickDue).map
        fun n => tickCommand n lanes[n].timer }

end Sys2Proof.Machine
end

