-- ==== Sys2Proof/Machine/StoreEvents.lean ====
section
/-! DEFINITION. The requests that the profile store takes, each whole: a lane's STAGE and OPEN requests and a
unit's snapshot (chapter 8, R48, R140). A request that is not there has been abandoned, and nothing is taken. -/

namespace Sys2Proof.Machine

/-- STAGE_NOW: the application, then the report DONE with the new generation and count 0 (R129). -/
def execStageNow (n : LaneNo) (s : State) : Host.Outcome State Fault Refusal :=
  match s.lanes[n].storeRequest with
  | some (.now p u) =>
    let st := s.store.applyUpdate p u
    .next ((s.setStore st).setLane n
      (s.lanes[n].reportDone (stageResultBytes st.profiles[p].generation 0) .none))
  | _ => .next s

/-- STAGE_AT_OPEN: the append, reported with the list's new length, or SLOTS_FULL when the list holds 4
entries (R128, R130). -/
def execStageAtOpen (n : LaneNo) (s : State) : Host.Outcome State Fault Refusal :=
  match s.lanes[n].storeRequest with
  | some (.atOpen e) =>
    if s.store.stageList.length < 4 then
      let st := s.store.append e
      .next ((s.setStore st).setLane n
        (s.lanes[n].reportDone
          (stageResultBytes st.profiles[e.profile].generation st.stageList.length) .none))
    else .next (s.setLane n (s.lanes[n].refuse .slotsFull .none))
  | _ => .next s

/-- STAGE_CANCEL: the removal of every entry of the profile, reported with their number (R131). -/
def execStageCancel (n : LaneNo) (s : State) : Host.Outcome State Fault Refusal :=
  match s.lanes[n].storeRequest with
  | some (.cancel p) =>
    let st := s.store.cancel p
    .next ((s.setStore st).setLane n
      (s.lanes[n].reportDone
        (stageResultBytes st.profiles[p].generation (s.store.stageList.length - st.stageList.length))
        .none))
  | _ => .next s

/-- OPEN: the entries that wait for the lane are applied, and the new bundle is prepared and reported
(R133, R140). -/
def execOpenBundle (n : LaneNo) (s : State) : Host.Outcome State Fault Refusal :=
  match s.lanes[n].storeRequest with
  | some (.openBundle id) =>
    .next ((s.setStore (s.store.openLane n)).setLane n
      (s.lanes[n].reportDone (openResultBytes (s.store.waitingFor n).length) (.opened id)))
  | _ => .next s

/-- SNAPSHOT: the unit copies the profile with its generation and enters FRONT (R48, R49, R54). -/
def execSnapshot (u : UnitNo) (s : State) : Host.Outcome State Fault Refusal :=
  match s.units[u] with
  | .admitting n copy (some p) =>
    let item : ItemContext := { lane := n, copy := copy, profile := p, snapshot := s.store.profiles[p] }
    .next (s.setUnit u (enterFront item s.draws)).nextDraw
  | _ => .next s

end Sys2Proof.Machine
end

