-- ==== Sys2Proof/Machine/UnitEvents.lean ====
section
/-! DEFINITION. The ends of a reduction unit's requests to host memory (R55, R64, R104). The end of a
request that the unit does not have in flight is the result of an abandoned one, and it is discarded (R60). -/

namespace Sys2Proof.Machine

/-- SOURCE_READ_DONE (R64). -/
def execSourceReadDone (u : UnitNo) (row off : Nat) (ended : Ended (ReadEnd (List Byte))) (s : State) :
    Host.Outcome State Fault Refusal :=
  match s.stillInFlight ended.epoch (s.units[u].readEnded row off ended.result s.draws) with
  | some r => .next (s.nextDraw.putUnit u r)
  | none => .next s

/-- OUTPUT_WRITE_DONE (R104). -/
def execOutputWriteDone (u : UnitNo) (index : Nat) (ended : Ended WriteEnd) (s : State) :
    Host.Outcome State Fault Refusal :=
  match s.stillInFlight ended.epoch (s.units[u].writeEnded index ended.result s.draws) with
  | some r => .next (s.nextDraw.putUnit u r)
  | none => .next s

end Sys2Proof.Machine
end

