-- ==== Sys2Proof/Machine/Window.lean ====
section
/-! DEFINITION. The register window: what each register reads as, what each write does, and the routing of
the host's accesses by offset and width (sections 11.1 to 11.5). -/

namespace Sys2Proof.Machine

/-! ### Registers as they read -/

/-- IDENT (R168). -/
def identWord : Word := 0x57420840

/-- The Run field as it reads: 1 in RUNNING and HALTED (R170). -/
def EngineState.runBit : EngineState → Bool
  | .disabled => false
  | .running => true
  | .halted => true

/-- The engine state field of STATUS (R174). -/
def EngineState.code : EngineState → Nat
  | .disabled => 0
  | .running => 1
  | .halted => 2

/-- The halt cause field of STATUS (R174). -/
def HaltCause.code : HaltCause → Nat
  | .none => 0
  | .recordWrite => 1

/-- The dispatch mode field (R170). -/
def dispatchBit : DispatchMode → Bool
  | .fixed => false
  | .rotating => true

/-- The notice mode field (R170). -/
def noticeBit : NoticeMode → Bool
  | .nested => false
  | .autoEnd => true

/-- The dispatch mode a written bit selects (R170). -/
def dispatchModeOf (bit : Bool) : DispatchMode :=
  if bit then .rotating else .fixed

/-- The notice mode a written bit selects (R170). -/
def noticeModeOf (bit : Bool) : NoticeMode :=
  if bit then .autoEnd else .nested

/-- A CONTROL word with engine reset 0: Run in bit 0, dispatch mode in bit 4, notice mode in bit 5 and message
enable in bit 8 (R170). -/
def controlFields (run : Bool) (dispatch : DispatchMode) (mode : NoticeMode) (enable : Bool) : Word :=
  BitVec.ofNat 32
    (run.toNat + 16 * (dispatchBit dispatch).toNat + 32 * (noticeBit mode).toNat + 256 * enable.toNat)

/-- CONTROL as it reads (R170). -/
def State.controlWord (s : State) : Word :=
  controlFields s.engine.runBit s.dispatchMode s.notice.mode s.notice.messageEnable

/-- STATUS as it reads (R174). -/
def State.statusWord (s : State) : Word :=
  BitVec.ofNat 32
    (s.engine.code + 4 * s.haltCause.code + 256 * s.dropped.toNat
      + 4096 * sourceNumber s.notice.peek + 65536 * s.notice.line.toNat)

/-! ### LANE -/

/-- The actions of LANE (R172). -/
inductive LaneAction where
  | start
  | stop
  | post
deriving DecidableEq, Repr

/-- A lane takes an action in the state it is in (R22). -/
def Lane.act (area : Addr) (n : LaneNo) (l : Lane) : LaneAction → Lane
  | .start => l.takeStart area n
  | .stop => l.takeStop area n
  | .post => l.takePost area n

/-- The window passes an action to lane `lane` when the engine is RUNNING and the number is 0–7, and drops the
write otherwise (R22, R172). -/
def State.passAction (s : State) (lane : Byte) (a : LaneAction) : State :=
  if h : lane.toNat < 8 then
    if s.engine = .running then
      let n : LaneNo := ⟨lane.toNat, h⟩
      s.setLane n (s.lanes[n].act s.area n a)
    else s.drop
  else s.drop

/-- A write to LANE: lane number in bits 7–0, action in bits 15–8, bits 31–16 ignored (R172). -/
def State.writeLane (s : State) (w : Word) : State :=
  match (w.extractLsb' 8 8).toNat with
  | 1 => s.passAction (w.extractLsb' 0 8) .start
  | 2 => s.passAction (w.extractLsb' 0 8) .stop
  | 3 => s.passAction (w.extractLsb' 0 8) .post
  | _ => s.drop

/-! ### CONTROL -/

/-- Whether the engine may leave RUNNING: every lane rests and has no device-half write in flight (R171). -/
def State.allAtRest (s : State) : Bool :=
  decide (∀ n : LaneNo, s.lanes[n].state.isRest = true ∧ s.lanes[n].recordWriteInFlight = false)

/-- The Run field of a CONTROL write (R171). -/
def State.writeRun (s : State) (run : Bool) : State :=
  match s.engine, run with
  | .disabled, true => if s.area = 0 then s.drop else { s with engine := .running }
  | .disabled, false => s
  | .running, true => s
  | .running, false => if s.allAtRest then { s with engine := .disabled } else s.drop
  | .halted, true => s
  | .halted, false => s.drop

/-- A write to CONTROL, taken as one change: the engine reset alone, or the modes and message enable with the
Run field (R170). -/
def State.writeControl (s : State) (w : Word) : State :=
  if w.getLsbD 1 then s.engineReset
  else
    ({ s with
        dispatchMode := dispatchModeOf (w.getLsbD 4)
        notice := s.notice.configure (noticeModeOf (w.getLsbD 5)) (w.getLsbD 8) }).writeRun (w.getLsbD 0)

/-! ### AREA and STATUS -/

/-- A write to one word of AREA; dropped while RUNNING (R169). -/
def State.writeArea (s : State) (which : AreaWord) (v : Word) : State :=
  if s.engine = .running then s.drop
  else
    match which with
    | .low => { s with area := (s.area.extractLsb' 32 32 ++ (v.extractLsb' 12 20 ++ 0#12) : BitVec 64) }
    | .high => { s with area := (v ++ s.area.extractLsb' 0 32 : BitVec 64) }

/-- A write to STATUS (R174). -/
def State.writeStatus (s : State) (v : Word) : State :=
  if v.getLsbD 8 then { s with dropped := false } else s

/-! ### NOTICE -/

/-- A NOTICE command that names a source takes it in 0–8; the write is dropped otherwise (R162, R173). -/
def State.withSource (s : State) (source : Byte) (f : Source → NoticeController) : State :=
  if h : source.toNat < 9 then s.setNotice (f ⟨source.toNat, h⟩) else s.drop

/-- A write to NOTICE: command in bits 15–8, source in bits 7–0, bits 31–16 ignored (R173). -/
def State.writeNotice (s : State) (w : Word) : State :=
  let source := w.extractLsb' 0 8
  match (w.extractLsb' 8 8).toNat with
  | 1 => s.setNotice s.notice.endAny
  | 2 => s.setNotice s.notice.endAnyRotate
  | 3 => s.withSource source s.notice.endSource
  | 4 => s.withSource source s.notice.setLowest
  | 5 => s.withSource source (s.notice.setMask · true)
  | 6 => s.withSource source (s.notice.setMask · false)
  | _ => s.drop

/-! ### Accesses by offset and width -/

/-- A 32-bit write at a 32-bit-aligned offset (R168). -/
def State.writeRegister (s : State) (offset : Nat) (v : Word) : State :=
  match offset with
  | 0x000 => s
  | 0x008 => s.writeControl v
  | 0x010 => s.writeArea .low v
  | 0x014 => s.writeArea .high v
  | 0x018 => s.writeLane v
  | 0x020 => s.writeNotice v
  | 0x028 => s.writeStatus v
  | _ => s.drop

/-- A write of `size` bytes at an offset of the window; one of another width or alignment than 32-bit is
dropped (R168). -/
def windowWrite (s : State) (offset size : Nat) (v : Word) : State :=
  if size = 4 ∧ offset % 4 = 0 then s.writeRegister offset v else s.drop

/-- A 32-bit read at a 32-bit-aligned offset: the value, and the state after it, which only a read of NOTICE
changes (R159, R168). -/
def State.readRegister (s : State) (offset : Nat) : Word × State :=
  match offset with
  | 0x000 => (identWord, s)
  | 0x008 => (s.controlWord, s)
  | 0x010 => (s.area.extractLsb' 0 32, s)
  | 0x014 => (s.area.extractLsb' 32 32, s)
  | 0x020 => (BitVec.ofNat 32 (sourceNumber s.notice.peek), s.setNotice s.notice.take)
  | 0x028 => (s.statusWord, s)
  | _ => (0, s)

/-- 32-bit reads of `count` words in increasing offset order, each with its own effect (R168). Within a word the byte
at the lowest offset holds bits 7–0 (DESIGN CHOICE, notes/assumptions/19.md). -/
def State.readRegisters : Nat → Nat → State → List Byte × State
  | 0, _, s => ([], s)
  | count + 1, offset, s =>
    let first := s.readRegister offset
    let later := State.readRegisters count (offset + 4) first.2
    (leBytes 4 first.1.toNat ++ later.1, later.2)

/-- A read of `size` bytes at an offset of the window: the bytes it returns and the state after it. A read narrower
than 32 bits, or one at an aligned offset, is a 32-bit read of each word it covers, in increasing offset order and
each with its own effect, and returns the addressed bytes; a misaligned one of 32 bits or more is a read at no
register's offset and returns 0 (R168; notes/assumptions/7.md, 19.md). -/
def windowRead (s : State) (offset size : Nat) : List Byte × State :=
  if size < 4 ∨ offset % 4 = 0 then
    let words := State.readRegisters (ceilDiv (offset % 4 + size) 4) (offset - offset % 4) s
    ((words.1.drop (offset % 4)).take size, words.2)
  else (zeros size, s)

/-! ### The commands -/

/-- START (R22, R172). -/
def execStart (lane : Byte) (s : State) : Host.Outcome State Fault Refusal :=
  .next (s.passAction lane .start)

/-- STOP (R22, R172). -/
def execStop (lane : Byte) (s : State) : Host.Outcome State Fault Refusal :=
  .next (s.passAction lane .stop)

/-- POST (R22, R172). -/
def execPost (lane : Byte) (s : State) : Host.Outcome State Fault Refusal :=
  .next (s.passAction lane .post)

/-- RUN_SET: a CONTROL write with Run 1 and engine reset 0 (R170, R171). -/
def execRunSet (word : Word) (s : State) : Host.Outcome State Fault Refusal :=
  .next (s.writeControl ((word &&& ~~~2) ||| 1))

/-- RUN_CLEAR: a CONTROL write with Run 0 and engine reset 0 (R170, R171). -/
def execRunClear (word : Word) (s : State) : Host.Outcome State Fault Refusal :=
  .next (s.writeControl (word &&& ~~~3))

/-- ENGINE_RESET: a CONTROL write with engine reset 1, its other fields ignored (R170, R178). -/
def execEngineReset (word : Word) (s : State) : Host.Outcome State Fault Refusal :=
  .next (s.writeControl (word ||| 2))

/-- DISPATCH_MODE: a CONTROL write that changes the dispatch mode alone (R42, R170). -/
def execDispatchMode (mode : DispatchMode) (s : State) : Host.Outcome State Fault Refusal :=
  .next (s.writeControl (controlFields s.engine.runBit mode s.notice.mode s.notice.messageEnable))

/-- NOTICE_MODE: a CONTROL write that changes the notice mode alone (R163, R170). -/
def execNoticeMode (mode : NoticeMode) (s : State) : Host.Outcome State Fault Refusal :=
  .next (s.writeControl (controlFields s.engine.runBit s.dispatchMode mode s.notice.messageEnable))

/-- MESSAGE_ENABLE: a CONTROL write that changes message enable alone (R164, R170). -/
def execMessageEnable (on : Bool) (s : State) : Host.Outcome State Fault Refusal :=
  .next (s.writeControl (controlFields s.engine.runBit s.dispatchMode s.notice.mode on))

/-- AREA_WRITE (R169). -/
def execAreaWrite (which : AreaWord) (value : Word) (s : State) : Host.Outcome State Fault Refusal :=
  .next (s.writeArea which value)

/-- STATUS_WRITE (R174). -/
def execStatusWrite (value : Word) (s : State) : Host.Outcome State Fault Refusal :=
  .next (s.writeStatus value)

/-- TAKE: a window read that covers NOTICE; `readData` is what it returns (R159, R168, R173). -/
def execTake (offset : BitVec 12) (size : Nat) (s : State) : Host.Outcome State Fault Refusal :=
  .next
    { (windowRead s offset.toNat size).2 with readData := (windowRead s offset.toNat size).1 }

/-- END_ANY; the source field is ignored (R161, R173). -/
def execEndAny (_source : Byte) (s : State) : Host.Outcome State Fault Refusal :=
  .next (s.setNotice s.notice.endAny)

/-- END_ANY_ROTATE; the source field is ignored (R161, R173). -/
def execEndAnyRotate (_source : Byte) (s : State) : Host.Outcome State Fault Refusal :=
  .next (s.setNotice s.notice.endAnyRotate)

/-- END s (R161, R173). -/
def execEndSource (source : Byte) (s : State) : Host.Outcome State Fault Refusal :=
  .next (s.withSource source s.notice.endSource)

/-- LOWEST s (R162, R173). -/
def execLowest (source : Byte) (s : State) : Host.Outcome State Fault Refusal :=
  .next (s.withSource source s.notice.setLowest)

/-- MASK s (R162, R173). -/
def execMask (source : Byte) (s : State) : Host.Outcome State Fault Refusal :=
  .next (s.withSource source (s.notice.setMask · true))

/-- UNMASK s (R162, R173). -/
def execUnmask (source : Byte) (s : State) : Host.Outcome State Fault Refusal :=
  .next (s.withSource source (s.notice.setMask · false))

/-- UNMAPPED_WRITE, through the routing of every window write (R168, R175). -/
def execUnmappedWrite (offset : BitVec 12) (size : Nat) (value : Word) (s : State) :
    Host.Outcome State Fault Refusal :=
  .next (windowWrite s offset.toNat size value)

end Sys2Proof.Machine
end

