-- ==== Sys2Proof/Machine/Dispatch.lean ====
section
/-! DEFINITION. exec: the effect of each command on everything but the queue, one arm per row of
spec/opcode_table.json. -/

namespace Sys2Proof.Machine

/-- The effect of a command on everything but the queue. -/
def exec (i : Instr) (s : State) : Host.Outcome State Fault Refusal :=
  match i with
  | .start lane => Sys2Proof.Machine.execStart lane s
  | .stop lane => Sys2Proof.Machine.execStop lane s
  | .post lane => Sys2Proof.Machine.execPost lane s
  | .runSet word => Sys2Proof.Machine.execRunSet word s
  | .runClear word => Sys2Proof.Machine.execRunClear word s
  | .engineReset word => Sys2Proof.Machine.execEngineReset word s
  | .dispatchMode mode => Sys2Proof.Machine.execDispatchMode mode s
  | .noticeMode mode => Sys2Proof.Machine.execNoticeMode mode s
  | .messageEnable on => Sys2Proof.Machine.execMessageEnable on s
  | .areaWrite which value => Sys2Proof.Machine.execAreaWrite which value s
  | .statusWrite value => Sys2Proof.Machine.execStatusWrite value s
  | .take offset size => Sys2Proof.Machine.execTake offset size s
  | .endAny source => Sys2Proof.Machine.execEndAny source s
  | .endAnyRotate source => Sys2Proof.Machine.execEndAnyRotate source s
  | .endSource source => Sys2Proof.Machine.execEndSource source s
  | .lowest source => Sys2Proof.Machine.execLowest source s
  | .mask source => Sys2Proof.Machine.execMask source s
  | .unmask source => Sys2Proof.Machine.execUnmask source s
  | .unmappedWrite offset size value => Sys2Proof.Machine.execUnmappedWrite offset size value s
  | .coldReset cause => Sys2Proof.Machine.execColdReset cause s
  | .holdoffTick lane => Sys2Proof.Machine.execHoldoffTick lane s
  | .holdoffUnderflow lane => Sys2Proof.Machine.execHoldoffUnderflow lane s
  | .message outlet => Sys2Proof.Machine.execMessage outlet s
  | .hostHalfReadDone lane result => Sys2Proof.Machine.execHostHalfReadDone lane result s
  | .startRecordWriteDone lane result => Sys2Proof.Machine.execStartRecordWriteDone lane result s
  | .linkReadDone lane result => Sys2Proof.Machine.execLinkReadDone lane result s
  | .stateWordReadDone lane result => Sys2Proof.Machine.execStateWordReadDone lane result s
  | .docketReadDone lane result => Sys2Proof.Machine.execDocketReadDone lane result s
  | .claimDone lane result => Sys2Proof.Machine.execClaimDone lane result s
  | .skipWriteDone lane result => Sys2Proof.Machine.execSkipWriteDone lane result s
  | .resultSectionWriteDone lane result => Sys2Proof.Machine.execResultSectionWriteDone lane result s
  | .stateWordWriteDone lane result => Sys2Proof.Machine.execStateWordWriteDone lane result s
  | .reportRecordWriteDone lane result => Sys2Proof.Machine.execReportRecordWriteDone lane result s
  | .stopRecordWriteDone lane result => Sys2Proof.Machine.execStopRecordWriteDone lane result s
  | .faultRecordWriteDone lane result => Sys2Proof.Machine.execFaultRecordWriteDone lane result s
  | .stageNow lane => Sys2Proof.Machine.execStageNow lane s
  | .stageAtOpen lane => Sys2Proof.Machine.execStageAtOpen lane s
  | .stageCancel lane => Sys2Proof.Machine.execStageCancel lane s
  | .openBundle lane => Sys2Proof.Machine.execOpenBundle lane s
  | .snapshot unit => Sys2Proof.Machine.execSnapshot unit s
  | .sourceReadDone unit row off result => Sys2Proof.Machine.execSourceReadDone unit row off result s
  | .outputWriteDone unit index result => Sys2Proof.Machine.execOutputWriteDone unit index result s

end Sys2Proof.Machine
end

