-- ==== Sys2Proof/Safety.lean ====
section
/-! DEFINITION. What the spec says always holds of the block, as predicates on a state: the ranges of the
profiles and of the holdoff timers, the alignment of addresses, who holds what, what a unit asks of host memory,
and what an engine that is not RUNNING has in flight; and the outcomes that several claims name. Claims are stated
in terms of these. -/

namespace Sys2Proof.Machine

/-! ### Profile store -/

/-- Every field lies in its range, and in each bound pair the upper value is not below the lower (R121, R123). -/
abbrev Profile.Valid (p : Profile) : Prop :=
  (50 ≤ p.outDpi ∧ p.outDpi ≤ 600) ∧ (32 ≤ p.contrast ∧ p.contrast ≤ 63) ∧
  (p.tFloor ≤ p.tCeil ∧ p.tCeil ≤ 255) ∧ p.bgStart ≤ 255 ∧ p.inkGap ≤ 255 ∧ p.kTrack ≤ 7 ∧
  p.runOrder ≤ 3 ∧ p.fallbackLimit ≤ 2 ∧
  (p.bytesLow ≤ p.bytesHigh ∧ 64 ≤ p.bytesHigh ∧ p.bytesHigh ≤ 1048576) ∧
  (p.inkLow ≤ p.inkHigh ∧ p.inkHigh ≤ 1000) ∧ (p.bgLow ≤ p.bgHigh ∧ p.bgHigh ≤ 255) ∧
  p.streakLimit ≤ 255

/-- Every profile of the store is valid (R123) and the stage list holds at most 4 entries (R132). -/
abbrev ProfileStore.Valid (st : ProfileStore) : Prop :=
  (∀ i : Fin 16, st.profiles[i].fields.Valid) ∧ st.stageList.length ≤ 4

/-! ### Notice controller -/

/-- In AUTO_END mode the in-service set is empty (R163), and a message is due only behind one in flight
(R165). -/
abbrev NoticeController.Valid (c : NoticeController) : Prop :=
  (c.mode = .autoEnd → ∀ t : Source, c.inService[t] = false) ∧ (c.due = true → c.inFlight = true)

/-! ### Lanes -/

/-- The ranges of R150, and the held count below the threshold (R152, R155); an OFF timer never runs, and a
running ONESHOT timer holds an event (R153). -/
abbrev Timer.Valid (t : Timer) : Prop :=
  (1 ≤ t.threshold ∧ t.threshold ≤ 255) ∧ t.reload ≤ 65535 ∧ t.prescale ≤ 14 ∧ t.counter ≤ 65535 ∧
  t.held < t.threshold ∧ (t.mode = .off → t.held = 0 ∧ t.running = false) ∧
  (t.mode = .oneshot → t.running = true → 0 < t.held)

/-- What a request in flight belongs to. -/
inductive RequestPart where
  | nothing
  | startOrCheck
  | claim
  | report
  | rest
deriving DecidableEq, Repr

/-- The part of a lane's work that its request in flight belongs to: the start sequence or a check (the claim
apart), a report, or the entry to STOPPED or FAULTED (R3, R7). -/
def Lane.part (l : Lane) : RequestPart :=
  match l.request with
  | none => .nothing
  | some (.hostHalfRead _) => .startOrCheck
  | some (.linkRead _) => .startOrCheck
  | some (.stateWordRead _) => .startOrCheck
  | some (.docketRead _) => .startOrCheck
  | some (.claim _ _ _) => .claim
  | some (.recordWrite .start _ _) => .startOrCheck
  | some (.recordWrite .skip _ _) => .startOrCheck
  | some (.recordWrite .report _ _) => .report
  | some (.recordWrite .stop _ _) => .rest
  | some (.recordWrite .fault _ _) => .rest
  | some (.resultWrite _ _) => .report
  | some (.stateWordWrite _ _) => .report

/-- Whether the request in flight is the host-half read. -/
def Lane.readingHostHalf (l : Lane) : Bool :=
  match l.request with
  | some (.hostHalfRead _) => true
  | _ => false

/-- Whether the request in flight is the device-half write of step 3 of a report. -/
def Lane.writingReportRecord (l : Lane) : Bool :=
  match l.request with
  | some (.recordWrite .report _ _) => true
  | _ => false

/-- A lane's state, its request and what it holds agree (R10, R20, R27 to R31): a start sequence or a check
runs in CHECKING without a held docket; a report runs in ACTIVE and the lane holds its docket until step 3; the
write of an entry to rest runs in STOPPED or FAULTED, or in CHECKING when a START waits for it; a request to
the profile store is made in ACTIVE with no other request; a docket is held in HOLDING or ACTIVE; and a docket
copy is kept from the claim's issue to the end of the report. -/
abbrev Lane.ShapeValid (l : Lane) : Prop :=
  (l.part = .startOrCheck → l.state = .checking ∧ l.copy = none) ∧
  (l.part = .claim → l.state = .checking ∧ l.copy ≠ none) ∧
  (l.part = .report → l.state = .active ∧ l.report ≠ none ∧ l.holds = !l.writingReportRecord) ∧
  (l.part = .rest → l.copy = none ∧
    (l.state = .stopped ∨ l.state = .faulted ∨ (l.state = .checking ∧ l.startDue = true))) ∧
  (l.startDue = true → l.part = .rest ∧ l.state = .checking) ∧
  (l.state.isRest = true → l.part = .nothing ∨ l.part = .rest) ∧
  (l.state = .idle → l.part = .nothing) ∧
  (l.state = .waiting → l.part = .nothing) ∧
  (l.storeRequest ≠ none → l.state = .active ∧ l.holds = true ∧ l.part = .nothing) ∧
  (l.report ≠ none → l.part = .report) ∧
  (l.holds = true → l.state = .holding ∨ l.state = .active) ∧
  (l.copy ≠ none → l.part = .claim ∨ l.state = .holding ∨ l.state = .active)

/-- Both flags are clear in the rest states and in WAITING (R21, R26). -/
abbrev Lane.FlagsValid (l : Lane) : Prop :=
  (l.state.isRest = true ∨ l.state = .waiting) → l.postLatch = false ∧ l.stopPending = false

/-- The timer of a lane is valid, and it is stopped and holds nothing in a rest state and until the host half
has been read (R20, R23, R150, R154). -/
abbrev Lane.TimerValid (l : Lane) : Prop :=
  l.timer.Valid ∧
  ((l.state.isRest = true ∨ l.startDue = true ∨ l.readingHostHalf = true) →
    l.timer.held = 0 ∧ l.timer.running = false)

/-- Cursor and docket are 64-byte-aligned addresses, or 0 (R3, R4, R8). -/
abbrev Lane.AddressesAligned (l : Lane) : Prop :=
  l.cursor.toNat % 64 = 0 ∧ l.docket.toNat % 64 = 0

/-- Nothing of the lane is in flight and its timer is stopped (R36). -/
abbrev Lane.Frozen (l : Lane) : Prop :=
  l.request = none ∧ l.startDue = false ∧ l.holds = false ∧ l.storeRequest = none ∧
  l.report = none ∧ l.timer.running = false

/-- A lane that has handed its docket on: it waits for a unit or its item is on one, and it has no request of
its own in flight (R28, R40). -/
abbrev Lane.HandedOn (l : Lane) (state : LaneState) : Prop :=
  l.state = state ∧ l.holds = true ∧ l.request = none ∧ l.storeRequest = none ∧ l.report = none ∧
  l.startDue = false

/-! ### Whole state -/

/-- Whether the unit may rest in its state between commands: the admission checks and the composing are parts
of the command that brings them about (R46, R58). -/
def ReductionUnit.settled : ReductionUnit → Bool
  | .idle => true
  | .admitting _ _ admitted => admitted.isSome
  | .front _ _ => true
  | .rear _ _ _ => true
  | .compose _ _ _ => false

/-- AREA is 4096-aligned (R1, R169). -/
abbrev State.AreaAligned (s : State) : Prop :=
  s.area.toNat % 4096 = 0

/-- A unit that holds a lane's item holds it for a lane in ACTIVE, no two units hold items of one lane, a
request in the dispatcher's set is that of a lane in HOLDING, while RUNNING a lane in HOLDING has its request in the
set, and no unit rests in COMPOSE or before its admission checks (R28, R40, R46, R58). -/
abbrev State.OwnershipValid (s : State) : Prop :=
  (∀ u : UnitNo, ∀ n : LaneNo, s.units[u].lane? = some n → s.lanes[n].HandedOn .active) ∧
  (∀ n : LaneNo, s.requests[n] = true → s.lanes[n].HandedOn .holding) ∧
  (s.engine = .running → ∀ n : LaneNo, s.lanes[n].state = .holding → s.requests[n] = true) ∧
  (∀ n : LaneNo, s.units[(0 : UnitNo)].lane? = some n → s.units[(1 : UnitNo)].lane? ≠ some n) ∧
  (∀ u : UnitNo, s.units[u].settled = true)

/-- No unit is bound and no lane asks for one. -/
abbrev State.UnitsIdle (s : State) : Prop :=
  (∀ u : UnitNo, s.units[u] = .idle) ∧ ∀ n : LaneNo, s.requests[n] = false

/-- The halt cause is NONE unless the engine is HALTED. While DISABLED every lane rests with nothing in flight,
while HALTED every lane is frozen, and in both no unit is bound and no unit is asked for (R36, R39, R42, R60,
R171, R176, R177). -/
abbrev State.EngineValid (s : State) : Prop :=
  (s.haltCause = .recordWrite ↔ s.engine = .halted) ∧
  (s.engine = .disabled → s.UnitsIdle ∧ ∀ n : LaneNo, s.lanes[n].state.isRest = true ∧ s.lanes[n].Frozen) ∧
  (s.engine = .halted → s.UnitsIdle ∧ ∀ n : LaneNo, s.lanes[n].Frozen)

/-- Everything the spec says of who does what: every lane's shape, flags and timer, the ownership of items, and
what an engine that is not RUNNING has in flight. -/
abbrev State.ControlValid (s : State) : Prop :=
  (∀ n : LaneNo, s.lanes[n].ShapeValid ∧ s.lanes[n].FlagsValid ∧ s.lanes[n].TimerValid) ∧
  s.OwnershipValid ∧ s.EngineValid

/-! ### Attempts -/

/-- A failed attempt failed on one of the two errors (R55). -/
def AttemptPhase.sound : AttemptPhase → Bool
  | .fetching => true
  | .completed => true
  | .oversize => true
  | .failed status => status.isError

/-- The side context of an attempt under valid snapshot fields: trackers in 0–255, one per column like the ink
counters and the accumulators; sums that lie in 0 to 255 times their count; a byte count within the budget, and
equal to it once oversize has been reported; at most 7 bits in the partial byte; waiting bytes that are counted;
a step within fallback_limit; and an error status once it has failed (R53, R55, R75, R79, R88, R100, R102). -/
abbrev SideContext.Valid (p : Profile) (sd : SideContext) : Prop :=
  (sd.trackers.length = sd.wo ∧ ∀ b ∈ sd.trackers, b ≤ 255) ∧ sd.inkCounters.length = sd.wo ∧
  (sd.accumulators.length = sd.wo ∧ ∀ a ∈ sd.accumulators, a.sum ≤ 255 * a.count) ∧
  sd.packer.byteCount ≤ sd.budget ∧ sd.packer.partialBits.length ≤ 7 ∧
  sd.packer.waiting.length ≤ sd.packer.byteCount ∧ sd.step ≤ p.fallbackLimit ∧
  (sd.packer.overBudget = true → sd.packer.byteCount = sd.budget) ∧
  (sd.phase = .oversize → sd.packer.overBudget = true) ∧ sd.phase.sound = true

/-- A unit's snapshot is valid (R123), and so is the attempt in progress under it. -/
def ReductionUnit.Valid : ReductionUnit → Prop
  | .idle => True
  | .admitting _ _ _ => True
  | .front it sd => it.fields.Valid ∧ sd.Valid it.fields
  | .rear it _ sd => it.fields.Valid ∧ sd.Valid it.fields
  | .compose it _ _ => it.fields.Valid

/-- An attempt's requests to host memory: every read in flight or returned asks for used bytes of one source row,
at their address, and the reads stand in increasing order of row and byte, all before the next byte to be asked
for; every write in flight carries bytes of the attempt that no longer wait, at their address, and the writes stand
in increasing byte order; and the bytes made lie within the budget (R51, R62 to R64, R104). -/
structure SideContext.RequestsValid (d : SideDescriptor) (out : Addr) (sd : SideContext) : Prop where
  nextByte : sd.readOff < d.usedBytes
  reads : ∀ r ∈ sd.reads, r.row < d.hs ∧ 1 ≤ r.len ∧ r.off + r.len ≤ d.usedBytes ∧
    r.address = d.byteAddress r.row r.off ∧ (∀ bytes, r.bytes = some bytes → bytes.length = r.len) ∧
    (r.row < sd.readRow ∨ r.row = sd.readRow ∧ r.off + r.len ≤ sd.readOff)
  readOrder : sd.reads.Pairwise fun r r' => r.row < r'.row ∨ r.row = r'.row ∧ r.off + r.len ≤ r'.off
  writes : ∀ w ∈ sd.writes, 1 ≤ w.bytes.length ∧ w.address = out + BitVec.ofNat 64 (sd.offset + w.index) ∧
    w.index + w.bytes.length ≤ sd.packer.byteCount - sd.packer.waiting.length
  writeOrder : sd.writes.Pairwise fun w w' => w.index + w.bytes.length ≤ w'.index
  budget : sd.packer.waiting.length ≤ sd.packer.byteCount ∧ sd.packer.byteCount ≤ sd.budget

/-- What a unit asks of host memory for the item it holds: the item has passed admission under its profile number,
and the attempt's requests are valid for its side, within the output area (R46, R49 to R51, R62 to R64, R104). -/
def ReductionUnit.RequestsValid : ReductionUnit → Prop
  | .idle => True
  | .admitting _ copy admitted => ∀ p, admitted = some p → admission copy = .admitted p
  | .front it sd =>
    admission it.copy = .admitted it.profile ∧ sd.offset + sd.budget ≤ itemCapacity it.copy ∧
      sd.RequestsValid (frontDescriptor it.copy) (itemOutputAddress it.copy)
  | .rear it _ sd =>
    admission it.copy = .admitted it.profile ∧ itemRearPresent it.copy = true ∧
      sd.offset + sd.budget ≤ itemCapacity it.copy ∧
      sd.RequestsValid (rearDescriptor it.copy) (itemOutputAddress it.copy)
  | .compose _ _ _ => True

/-- An attempt as it begins at a step: its geometry, and everything fresh; the reads it has issued are all in
flight, and there is one at least when the side has a row (R52, R64, R75, R80, R93, R100). -/
structure SideContext.Fresh (d : SideDescriptor) (p : Profile) (offset₀ budget₀ step₀ : Nat) (sd : SideContext) :
    Prop where
  step : sd.step = step₀
  wo : sd.wo = d.outputWidth p step₀
  ho : sd.ho = d.outputHeight p step₀
  offset : sd.offset = offset₀
  budget : sd.budget = budget₀
  nextRow : sd.nextRow = 0
  outRow : sd.outRow = 0
  writes : sd.writes = []
  accumulators : sd.accumulators = List.replicate sd.wo { sum := 0, count := 0 }
  trackers : sd.trackers = List.replicate sd.wo p.bgStart
  inkCounters : sd.inkCounters = List.replicate sd.wo 0
  previous : sd.previous = none
  packer : sd.packer = { byteCount := 0, partialBits := [], waiting := [], overBudget := false }
  phase : sd.phase = .fetching
  inFlight : ∀ r ∈ sd.reads, r.bytes = none
  firstRead : 0 < d.hs → ∃ r rs, sd.reads = r :: rs ∧ r.row = 0 ∧ r.off = 0 ∧ r.address = d.source

/-- Where unit `u`'s oversize attempt leads once every request of it has ended, `outcome` being that of the command
that ends the last: below fallback_limit the side restarts one step lower, at the same offset and budget; at the
limit the side ends OVERSIZE with the attempt's step and geometry, and the item is handed back or, after the front,
the rear begins at offset 0 (R50, R52 to R54). -/
def State.LadderOutcome (s : State) (u : UnitNo) (outcome : Host.Outcome State Fault Refusal) : Prop :=
  let drawn := { s with draws := s.draws + 1 }
  let becomes (r : ReductionUnit) := outcome = .next { s with units := s.units.set u r, draws := s.draws + 1 }
  let oversize (sd : SideContext) := uncodedResult .oversize sd.offset sd.step sd.wo sd.ho
  match s.units[u] with
  | .front it sd =>
    (sd.step < it.fields.fallbackLimit → ∃ sd' : SideContext, becomes (.front it sd') ∧
      sd'.Fresh (frontDescriptor it.copy) it.fields sd.offset sd.budget (sd.step + 1)) ∧
    (it.fields.fallbackLimit ≤ sd.step →
      (itemRearPresent it.copy = false → outcome = .next (drawn.handBack u it (oversize sd) absentResult)) ∧
      (itemRearPresent it.copy = true → 0 < itemCapacity it.copy → 0 < it.fields.bytesHigh →
        ∃ sd' : SideContext, becomes (.rear it (oversize sd) sd') ∧
          sd'.Fresh (rearDescriptor it.copy) it.fields 0 (min it.fields.bytesHigh (itemCapacity it.copy)) 0))
  | .rear it front sd =>
    (sd.step < it.fields.fallbackLimit → ∃ sd' : SideContext, becomes (.rear it front sd') ∧
      sd'.Fresh (rearDescriptor it.copy) it.fields sd.offset sd.budget (sd.step + 1)) ∧
    (it.fields.fallbackLimit ≤ sd.step → outcome = .next (drawn.handBack u it front (oversize sd)))
  | _ => False

/-! ### Run lists -/

/-- The pixels of a run list: runs of alternating colour, the first of the given one (R96). -/
def expandRuns : Bool → List Nat → List Bool
  | _, [] => []
  | colour, run :: runs => List.replicate run colour ++ expandRuns (!colour) runs

end Sys2Proof.Machine
end

