-- ==== Sys2Proof/WellFormed.lean ====
section
/-! DEFINITION. Which commands the outside can send: the bounds on their operands that their own rows set. -/

namespace Sys2Proof

/-- A read of `size` bytes at `offset` that covers NOTICE (offset 0x020) in a form R168 describes: narrower than
32 bits, or from an aligned offset. -/
def coversNotice (offset size : Nat) : Bool :=
  decide (1 ≤ size ∧ offset < 0x24 ∧ 0x20 < offset + size ∧ offset + size ≤ 4096 ∧
    (size < 4 ∨ offset % 4 = 0))

/-- Whether a 32-bit write at an aligned offset carries an operation that another row of the table names
(R168, R172, R173). -/
def carriesOperation (offset : Nat) (value : Word) : Bool :=
  match offset with
  | 0x008 => true
  | 0x010 => true
  | 0x014 => true
  | 0x018 => decide (1 ≤ (value.extractLsb' 8 8).toNat ∧ (value.extractLsb' 8 8).toNat ≤ 3)
  | 0x020 => decide (1 ≤ (value.extractLsb' 8 8).toNat ∧ (value.extractLsb' 8 8).toNat ≤ 6)
  | 0x028 => true
  | _ => false

/-- The operand checks of the commands; every other operand is bounded by its type, and a lane number over 7
or a source over 8 in a register write is the row's own dropped form (R172, R173). -/
def Instr.wellFormed : Instr → Bool
  | .take offset size => coversNotice offset.toNat size
  | .unmappedWrite offset size value =>
    decide (1 ≤ size ∧ offset.toNat + size ≤ 4096) &&
      !(size == 4 && offset.toNat % 4 == 0 && carriesOperation offset.toNat value)
  | .hostHalfReadDone _ ⟨_, .ok half⟩ => half.length == 64
  | .docketReadDone _ ⟨_, .ok bytes⟩ => bytes.length == 252
  | .sourceReadDone _ row off ⟨_, .ok bytes⟩ =>
    decide (row < 4096 ∧ 1 ≤ bytes.length ∧ off + bytes.length ≤ 4096)
  | .sourceReadDone _ row off ⟨_, .error⟩ => decide (row < 4096 ∧ off < 4096)
  | .outputWriteDone _ index _ => decide (index < 1048576)
  | _ => true

end Sys2Proof
end

