-- ==== Sys2Proof/Certificates/Slice0/Obligations.lean ====
section
/-! DEFINITION. The statements for the provers: what each command does to the state and what it leaves, the
arithmetic of an item, the rules of the whole block, and the invariants that every step keeps. Throughout, a
request is issued within the step that makes it due, and the fields for work in progress are the model's
(notes/assumptions/1.md, 17.md). -/

section Statements

open Sys2Proof Sys2Proof.Machine

/-! ### The queue -/

/-- A step runs the command at the front of the queue with the queue's rest. -/
def Obligations.StepRunsFrontCommand : Prop :=
  ∀ (c : Instr) (rest : List Instr) (s : State),
    step { s with pending := c :: rest } = exec c { s with pending := rest }

/-- The model's choice (notes/assumptions/2.md): on an empty queue one microsecond of the time base passes;
every running timer's interval grows by 1, the queue is the ticks that come due, one for each such timer in lane
order, and nothing else changes. -/
def Obligations.EmptyQueueLetsAMicrosecondPass : Prop :=
  ∀ s : State, s.pending = [] →
    let due (n : LaneNo) : Bool := s.lanes[n].timer.running &&
      decide (2 ^ s.lanes[n].timer.prescale ≤ s.lanes[n].timer.interval + 1)
    ∃ t, step s = .next t ∧
      t = { s with pending := t.pending, timeBase := s.timeBase + 1, lanes := t.lanes } ∧
      (∀ n : LaneNo, t.lanes[n] =
        { s.lanes[n] with
          timer :=
            { s.lanes[n].timer with
              interval := if s.lanes[n].timer.running then s.lanes[n].timer.interval + 1
                else s.lanes[n].timer.interval } }) ∧
      t.pending = (([0, 1, 2, 3, 4, 5, 6, 7] : List LaneNo).filter due).map fun n =>
        if s.lanes[n].timer.counter = 0 then .holdoffUnderflow n else .holdoffTick n

/-- No command stops the block (an inference, notes/assumptions/18.md), and none touches the queue, which is the
model's own and which neither reset empties (the model's choice, notes/assumptions/12.md). -/
def Obligations.EveryCommandCompletesAndKeepsTheQueue : Prop :=
  ∀ (c : Instr) (s : State), ∃ t, exec c s = .next t ∧ t.pending = s.pending

/-! ### LANE (R22, R23, R27, R172) -/

/-- START in a rest state: CHECKING with stop pending clear, the cursor 0 from IDLE and kept otherwise, and the
host-half read issued, or held until the device-half write in flight has ended. That the state is CHECKING while
the read is held is an inference (notes/assumptions/16.md). -/
def Obligations.StartFromRestRunsTheStartSequence : Prop :=
  ∀ (s : State) (lane : Byte) (h : lane.toNat < 8), s.engine = .running →
    let n : LaneNo := ⟨lane.toNat, h⟩
    let l := s.lanes[n]
    let l' := { l with
      state := .checking, stopPending := false, cursor := if l.state = LaneState.idle then 0 else l.cursor }
    (l.state = .idle ∨ l.state = .stopped ∨ l.state = .faulted) →
    ((∀ occasion a bytes, l.request ≠ some (.recordWrite occasion a bytes)) →
      exec (.start lane) s = .next (s.setLane n
        { l' with
          startDue := false
          request := some (.hostHalfRead (s.area + BitVec.ofNat 64 (128 * lane.toNat))) })) ∧
    (∀ occasion a bytes, l.request = some (.recordWrite occasion a bytes) →
      exec (.start lane) s = .next (s.setLane n { l' with startDue := true }))

/-- In CHECKING, HOLDING and ACTIVE a START or a POST sets the post latch and a STOP sets stop pending; in a
rest state a STOP or a POST has no effect. -/
def Obligations.LaneActionsSetFlagsOrDoNothing : Prop :=
  ∀ (s : State) (lane : Byte) (h : lane.toNat < 8), s.engine = .running →
    let n : LaneNo := ⟨lane.toNat, h⟩
    let l := s.lanes[n]
    ((l.state = .checking ∨ l.state = .holding ∨ l.state = .active) →
      exec (.start lane) s = .next (s.setLane n { l with postLatch := true }) ∧
      exec (.post lane) s = .next (s.setLane n { l with postLatch := true }) ∧
      exec (.stop lane) s = .next (s.setLane n { l with stopPending := true })) ∧
    ((l.state = .idle ∨ l.state = .stopped ∨ l.state = .faulted) →
      exec (.stop lane) s = .next s ∧ exec (.post lane) s = .next s)

/-- In WAITING a START or a POST begins a check with the link read and the latch cleared, and a STOP enters
STOPPED with the device-half write issued. -/
def Obligations.LaneActionsInWaiting : Prop :=
  ∀ (s : State) (lane : Byte) (h : lane.toNat < 8), s.engine = .running →
    let n : LaneNo := ⟨lane.toNat, h⟩
    let l := s.lanes[n]
    l.state = .waiting →
    (l.stopPending = false →
      let checking := { l with
        state := .checking, postLatch := false,
        request := some (.linkRead
          (if l.cursor = 0 then s.area + BitVec.ofNat 64 (128 * lane.toNat) else l.cursor + 0x10)) }
      exec (.start lane) s = .next (s.setLane n checking) ∧
      exec (.post lane) s = .next (s.setLane n checking)) ∧
    (let stopped := { l with
      state := .stopped, postLatch := false, stopPending := false, condition := .stopped,
      timer := { l.timer with running := false, held := 0 } }
    exec (.stop lane) s = .next (s.setLane n
      { stopped with
        request := some (.recordWrite .stop (s.area + BitVec.ofNat 64 (128 * lane.toNat) + 0x40)
          stopped.deviceHalf) }))

/-- A LANE write is dropped while the engine is not RUNNING and for a lane number over 7. A write of another
width or alignment, at an offset with no register, or with an unknown LANE action or NOTICE command is dropped;
a 32-bit write to IDENT has no effect. A dropped write sets the dropped flag and nothing else. Which writes the
row UNMAPPED_WRITE carries is an inference (notes/assumptions/8.md). -/
def Obligations.DroppedWritesSetTheFlagAlone : Prop :=
  (∀ (s : State) (lane : Byte), s.engine ≠ .running ∨ 8 ≤ lane.toNat →
    exec (.start lane) s = .next { s with dropped := true } ∧
    exec (.stop lane) s = .next { s with dropped := true } ∧
    exec (.post lane) s = .next { s with dropped := true }) ∧
  ∀ (s : State) (offset : BitVec 12) (size : Nat) (v : Word),
    (size ≠ 4 ∨ offset.toNat % 4 ≠ 0 → exec (.unmappedWrite offset size v) s = .next { s with dropped := true }) ∧
    (size = 4 → offset.toNat % 4 = 0 →
      (offset.toNat ∉ [0x000, 0x008, 0x010, 0x014, 0x018, 0x020, 0x028] ∨
        offset = 0x018 ∧ ((v.extractLsb' 8 8).toNat = 0 ∨ 4 ≤ (v.extractLsb' 8 8).toNat) ∨
        offset = 0x020 ∧ ((v.extractLsb' 8 8).toNat = 0 ∨ 7 ≤ (v.extractLsb' 8 8).toNat)) →
      exec (.unmappedWrite offset size v) s = .next { s with dropped := true }) ∧
    exec (.unmappedWrite 0x000 4 v) s = .next s

/-! ### CONTROL (R42, R163, R164, R170, R171, R178) -/

/-- RUN_SET takes the modes and message enable of its word in every engine state; it enters RUNNING from
DISABLED when AREA is nonzero, is dropped there when AREA is 0, and has no Run effect otherwise. What the row's
word carries is an inference (notes/assumptions/6.md). -/
def Obligations.RunSetEntersRunning : Prop :=
  ∀ (s : State) (w : Word),
    let s' := { s with
      dispatchMode := if w.getLsbD 4 then .rotating else .fixed
      notice := s.notice.configure (if w.getLsbD 5 then .autoEnd else .nested) (w.getLsbD 8) }
    (s.engine = .disabled → s.area ≠ 0 → exec (.runSet w) s = .next { s' with engine := .running }) ∧
    (s.engine = .disabled → s.area = 0 → exec (.runSet w) s = .next { s' with dropped := true }) ∧
    (s.engine ≠ .disabled → exec (.runSet w) s = .next s')

/-- RUN_CLEAR takes the modes and message enable of its word in every engine state; it leaves RUNNING when every
lane rests without a device-half write in flight, is dropped in RUNNING otherwise and in HALTED, and has no Run
effect in DISABLED. What the row's word carries is an inference (notes/assumptions/6.md). -/
def Obligations.RunClearLeavesRunningAtRest : Prop :=
  ∀ (s : State) (w : Word),
    let s' := { s with
      dispatchMode := if w.getLsbD 4 then .rotating else .fixed
      notice := s.notice.configure (if w.getLsbD 5 then .autoEnd else .nested) (w.getLsbD 8) }
    let atRest := ∀ n : LaneNo,
      (s.lanes[n].state = .idle ∨ s.lanes[n].state = .stopped ∨ s.lanes[n].state = .faulted) ∧
      ∀ occasion a bytes, s.lanes[n].request ≠ some (.recordWrite occasion a bytes)
    (s.engine = .running → atRest → exec (.runClear w) s = .next { s' with engine := .disabled }) ∧
    (s.engine = .running → ¬ atRest → exec (.runClear w) s = .next { s' with dropped := true }) ∧
    (s.engine = .halted → exec (.runClear w) s = .next { s' with dropped := true }) ∧
    (s.engine = .disabled → exec (.runClear w) s = .next s')

/-- The engine reset, in every engine state and whatever else the word carries (R178, R38). AREA, the dispatch
mode, message enable, the profiles with their generations, and the time base keep their values; what has been
sent and what was last read are the model's own records. That a message in flight is discarded, and the values
of fields the spec gives none, are the model's (notes/assumptions/5.md, 14.md); that the queue and the draw count
go on is the model's choice (notes/assumptions/12.md), and so is the epoch that begins (notes/assumptions/3.md). -/
def Obligations.EngineResetValues : Prop :=
  ∀ (s : State) (w : Word),
    exec (.engineReset w) s = .next
      { s with
        engine := .disabled, haltCause := .none, dropped := false
        lanes := Vector.replicate 8
          { state := .idle, postLatch := false, stopPending := false, cursor := 0, docket := 0, copy := none,
            holds := false, request := none, startDue := false, storeRequest := none, report := none,
            condition := .stopped, finished := 0, skipped := 0, faults := 0, lastFault := .none,
            lastFaultDocket := 0, lastSequence := 0,
            bundle :=
              { isOpen := false, id := 0, itemsDone := 0, itemsRefused := 0, sidesCoded := 0, bytes := 0,
                flagged := 0, oversize := 0, errors := 0 }
            timer :=
              { mode := .off, threshold := 1, reload := 0, prescale := 0, counter := 0, running := false,
                held := 0, interval := 0 } }
        requests := Vector.replicate 8 false, rotation := 7, units := Vector.replicate 2 .idle
        store := { s.store with stageList := [] }
        notice :=
          { s.notice with
            pending := Vector.replicate 9 false, inService := Vector.replicate 9 false
            masked := Vector.replicate 9 false, lowest := 8, mode := .nested, inFlight := false, due := false }
        epoch := s.epoch + 1 }

/-- DISPATCH_MODE, NOTICE_MODE and MESSAGE_ENABLE change their own field in every engine state and never the
engine state or the dropped flag; a change of notice mode empties the in-service set. One CONTROL write sets the
notice mode and message enable together in the same way. That the three rows carry one field is an inference
(notes/assumptions/6.md). -/
def Obligations.ModeCommandsChangeTheirOwnField : Prop :=
  ∀ s : State,
    (∀ m, exec (.dispatchMode m) s = .next { s with dispatchMode := m }) ∧
    (∀ m, ∃ c, exec (.noticeMode m) s = .next { s with notice := c } ∧ c.mode = m ∧
      c.inService = (if m = s.notice.mode then s.notice.inService else Vector.replicate 9 false) ∧
      c.pending = s.notice.pending ∧ c.masked = s.notice.masked ∧ c.lowest = s.notice.lowest ∧
      c.messageEnable = s.notice.messageEnable) ∧
    (∀ on, ∃ c, exec (.messageEnable on) s = .next { s with notice := c } ∧ c.messageEnable = on ∧
      c.mode = s.notice.mode ∧ c.inService = s.notice.inService ∧ c.pending = s.notice.pending ∧
      c.masked = s.notice.masked ∧ c.lowest = s.notice.lowest) ∧
    ∀ m on, let c := s.notice.configure m on
      c.mode = m ∧ c.messageEnable = on ∧
      c.inService = (if m = s.notice.mode then s.notice.inService else Vector.replicate 9 false) ∧
      c.pending = s.notice.pending ∧ c.masked = s.notice.masked ∧ c.lowest = s.notice.lowest

/-! ### AREA, STATUS and the reads of the window (R168, R169, R170, R174, R179) -/

/-- A write to a word of AREA takes that word alone, with its low 12 bits 0, and is dropped while RUNNING; a
STATUS write clears the dropped flag when bit 8 is set and changes nothing else. -/
def Obligations.AreaAndStatusWrites : Prop :=
  ∀ (s : State) (v : Word),
    (s.engine = .running → ∀ which, exec (.areaWrite which v) s = .next { s with dropped := true }) ∧
    (s.engine ≠ .running →
      (∃ a : Addr, exec (.areaWrite .low v) s = .next { s with area := a } ∧
        a.extractLsb' 32 32 = s.area.extractLsb' 32 32 ∧ a.extractLsb' 12 20 = v.extractLsb' 12 20 ∧
        a.extractLsb' 0 12 = 0) ∧
      (∃ a : Addr, exec (.areaWrite .high v) s = .next { s with area := a } ∧
        a.extractLsb' 32 32 = v ∧ a.extractLsb' 0 32 = s.area.extractLsb' 0 32)) ∧
    exec (.statusWrite v) s = .next { s with dropped := if v.getLsbD 8 then false else s.dropped }

/-- What the registers read as, bit by bit, 0 at any other offset; no read that does not reach NOTICE changes
anything; a read narrower than a word returns the addressed bytes of the words it covers, each with the effect of
its 32-bit read, in increasing order; a wider one at an aligned offset is a read of the first word and then, on the
state that leaves, a read of the rest; and TAKE is such a read. That a narrow read may cross into a second word,
that a misaligned wide one returns 0, and the record of what was read are the model's (notes/assumptions/7.md), and
so is the order of a register's bytes, bits 7–0 at the lowest offset (notes/assumptions/19.md). -/
def Obligations.RegistersReadTheirFieldsWordByWord : Prop :=
  (∀ s : State,
    (∀ offset size, offset + size ≤ 0x020 ∨ 0x024 ≤ offset → (windowRead s offset size).2 = s) ∧
    (windowRead s 0x000 4).1 = [0x40, 0x08, 0x42, 0x57] ∧
    (∀ offset, offset % 4 = 0 → offset ∉ [0x000, 0x008, 0x010, 0x014, 0x020, 0x028] →
      (windowRead s offset 4).1 = [0, 0, 0, 0]) ∧
    (windowRead s 0x010 4).1 = leBytes 4 (s.area.toNat % 2 ^ 32) ∧
    (windowRead s 0x014 4).1 = leBytes 4 (s.area.toNat / 2 ^ 32) ∧
    (∃ w : Word, (windowRead s 0x008 4).1 = leBytes 4 w.toNat ∧
      w.getLsbD 0 = decide (s.engine ≠ .disabled) ∧ w.getLsbD 4 = decide (s.dispatchMode = .rotating) ∧
      w.getLsbD 5 = decide (s.notice.mode = .autoEnd) ∧ w.getLsbD 8 = s.notice.messageEnable ∧
      ∀ i, i ≠ 0 → i ≠ 4 → i ≠ 5 → i ≠ 8 → w.getLsbD i = false) ∧
    (∃ w : Word, (windowRead s 0x028 4).1 = leBytes 4 w.toNat ∧
      (w.extractLsb' 0 2).toNat =
        (match s.engine with | .disabled => 0 | .running => 1 | .halted => 2) ∧
      (w.extractLsb' 2 2).toNat = (match s.haltCause with | .none => 0 | .recordWrite => 1) ∧
      w.getLsbD 8 = s.dropped ∧
      (w.extractLsb' 12 4).toNat = (match s.notice.peek with | some x => x.val | none => 15) ∧
      w.getLsbD 16 = s.notice.line ∧
      ∀ i, 4 ≤ i → i < 8 ∨ 9 ≤ i ∧ i < 12 ∨ 17 ≤ i → w.getLsbD i = false)) ∧
  ∀ (s : State) (offset size : Nat),
    let word := offset - offset % 4
    let first := windowRead s word 4
    (1 ≤ size → size < 4 → offset % 4 + size ≤ 4 →
      windowRead s offset size = ((first.1.drop (offset % 4)).take size, first.2)) ∧
    (size < 4 → 4 < offset % 4 + size →
      let second := windowRead first.2 (word + 4) 4
      windowRead s offset size =
        (first.1.drop (offset % 4) ++ second.1.take (offset % 4 + size - 4), second.2)) ∧
    (4 ≤ size → offset % 4 = 0 →
      let rest := windowRead first.2 (offset + 4) (size - 4)
      windowRead s offset size = (first.1 ++ rest.1, rest.2)) ∧
    (4 ≤ size → offset % 4 ≠ 0 → windowRead s offset size = (List.replicate size 0, s)) ∧
    ∀ o : BitVec 12, o.toNat = offset →
      exec (.take o size) s =
        .next { (windowRead s offset size).2 with readData := (windowRead s offset size).1 }

/-- A 32-bit write at a register's offset does what the command it carries does. What each row's operands carry,
the whole word of a CONTROL write in RUN_SET, RUN_CLEAR and ENGINE_RESET, is an inference
(notes/assumptions/6.md). -/
def Obligations.WindowWritesCarryTheCommands : Prop :=
  ∀ (s : State) (w : Word),
    let source := w.extractLsb' 0 8
    (w.extractLsb' 8 8 = 1 → exec (.start source) s = .next (windowWrite s 0x018 4 w)) ∧
    (w.extractLsb' 8 8 = 2 → exec (.stop source) s = .next (windowWrite s 0x018 4 w)) ∧
    (w.extractLsb' 8 8 = 3 → exec (.post source) s = .next (windowWrite s 0x018 4 w)) ∧
    (w.extractLsb' 8 8 = 1 → exec (.endAny source) s = .next (windowWrite s 0x020 4 w)) ∧
    (w.extractLsb' 8 8 = 2 → exec (.endAnyRotate source) s = .next (windowWrite s 0x020 4 w)) ∧
    (w.extractLsb' 8 8 = 3 → exec (.endSource source) s = .next (windowWrite s 0x020 4 w)) ∧
    (w.extractLsb' 8 8 = 4 → exec (.lowest source) s = .next (windowWrite s 0x020 4 w)) ∧
    (w.extractLsb' 8 8 = 5 → exec (.mask source) s = .next (windowWrite s 0x020 4 w)) ∧
    (w.extractLsb' 8 8 = 6 → exec (.unmask source) s = .next (windowWrite s 0x020 4 w)) ∧
    (w.getLsbD 1 = true → exec (.engineReset w) s = .next (windowWrite s 0x008 4 w)) ∧
    (w.getLsbD 1 = false → w.getLsbD 0 = true → exec (.runSet w) s = .next (windowWrite s 0x008 4 w)) ∧
    (w.getLsbD 1 = false → w.getLsbD 0 = false → exec (.runClear w) s = .next (windowWrite s 0x008 4 w)) ∧
    exec (.areaWrite .low w) s = .next (windowWrite s 0x010 4 w) ∧
    exec (.areaWrite .high w) s = .next (windowWrite s 0x014 4 w) ∧
    exec (.statusWrite w) s = .next (windowWrite s 0x028 4 w)

/-- A cold reset, whatever its cause: every register and block at its cold-reset value (R179, R38, R42, R43,
R121, R137, R167). The queue, the draw count and the epoch are the model's own: that they go on is the model's
choice (notes/assumptions/3.md, 12.md, 14.md), and so is the order of the bytes in which CONTROL and STATUS are read
(notes/assumptions/19.md). -/
def Obligations.ColdResetValues : Prop :=
  ∀ (s : State) (cause : ColdResetCause), ∃ t, exec (.coldReset cause) s = .next t ∧
    t.engine = .disabled ∧ t.haltCause = .none ∧ t.dropped = false ∧ t.area = 0 ∧
    (∀ n : LaneNo, t.lanes[n] = Lane.reset) ∧ (∀ n : LaneNo, t.requests[n] = false) ∧ t.rotation = 7 ∧
    t.dispatchMode = .fixed ∧ (∀ u : UnitNo, t.units[u] = .idle) ∧
    (∀ p : Fin 16, t.store.profiles[p].generation = 0 ∧ t.store.profiles[p].fields =
      { outDpi := 200, contrast := 48, tFloor := 40, tCeil := 220, bgStart := 224, inkGap := 48, kTrack := 3,
        runOrder := 1, fallbackLimit := 2, bytesLow := 512, bytesHigh := 65536, inkLow := 2, inkHigh := 300,
        bgLow := 96, bgHigh := 255, streakLimit := 4 }) ∧
    t.store.stageList = [] ∧
    (∀ x : Source, t.notice.pending[x] = false ∧ t.notice.inService[x] = false ∧ t.notice.masked[x] = false) ∧
    t.notice.lowest = 8 ∧ t.notice.mode = .nested ∧ t.notice.messageEnable = false ∧
    t.notice.inFlight = false ∧ t.notice.due = false ∧ t.timeBase = 0 ∧ t.readData = [] ∧
    (windowRead t 0x008 4).1 = leBytes 4 0 ∧ (windowRead t 0x028 4).1 = leBytes 4 0x0000F000 ∧
    t.pending = s.pending ∧ t.draws = s.draws ∧ t.epoch = s.epoch + 1

/-! ### NOTICE and the message (R156 to R166, R173) -/

/-- A raise adds its source to the pending set and changes nothing else but the message; the ranking from the
lowest pointer, eligibility in both modes, the line, and PEEK. -/
def Obligations.RaisesEligibilityRankingAndPeek : Prop :=
  ∀ c : NoticeController,
    (∀ x : Source,
      (c.raise x).pending = c.pending.set x true ∧ (c.raise x).inService = c.inService ∧
      (c.raise x).masked = c.masked ∧ (c.raise x).lowest = c.lowest ∧ (c.raise x).mode = c.mode ∧
      (c.raise x).messageEnable = c.messageEnable ∧ (c.pending[x] = true → c.raise x = c)) ∧
    (∀ i : Fin 9, sourceRank c.lowest (c.lowest + 1 + i) = i.val) ∧
    (∀ x : Source, c.eligible x = true ↔
      c.pending[x] = true ∧ c.masked[x] = false ∧
        (c.mode = .nested →
          ∀ y : Source, c.inService[y] = true → sourceRank c.lowest x < sourceRank c.lowest y)) ∧
    (c.line = true ↔ ∃ x : Source, c.eligible x = true) ∧
    (c.peek = none ↔ ∀ x : Source, c.eligible x = false) ∧
    (∀ x : Source, c.peek = some x ↔
      c.eligible x = true ∧ ∀ y : Source, c.eligible y = true → sourceRank c.lowest x ≤ sourceRank c.lowest y)

/-- A read of NOTICE of up to a word returns the highest-ranked eligible source and takes it out of the pending
set, into service in NESTED mode; with none eligible it returns 15 and changes nothing but what was last read.
The record of what was read and the order of the word's bytes are the model's (notes/assumptions/7.md, 19.md). -/
def Obligations.TakeReturnsTheHighestRankedSource : Prop :=
  ∀ (s : State) (offset : BitVec 12) (size : Nat),
    0x020 ≤ offset.toNat → offset.toNat < 0x024 → 1 ≤ size → offset.toNat % 4 + size ≤ 4 →
    let bytes (k : Nat) := ((leBytes 4 k).drop (offset.toNat % 4)).take size
    ((∀ x : Source, s.notice.eligible x = false) →
      exec (.take offset size) s = .next { s with readData := bytes 15 }) ∧
    (∀ x : Source, s.notice.eligible x = true →
      (∀ y : Source, s.notice.eligible y = true →
        sourceRank s.notice.lowest x ≤ sourceRank s.notice.lowest y) →
      ∃ c, exec (.take offset size) s = .next { s with notice := c, readData := bytes x.val } ∧
        c.pending = s.notice.pending.set x false ∧
        c.inService = (if s.notice.mode = .nested then s.notice.inService.set x true else s.notice.inService) ∧
        c.masked = s.notice.masked ∧ c.lowest = s.notice.lowest ∧ c.mode = s.notice.mode ∧
        c.messageEnable = s.notice.messageEnable)

/-- END s takes s out of service; END_ANY and END_ANY_ROTATE take the highest-ranked source in service out of
it, masked or not, and the latter makes it the lowest; with none in service they do nothing. LOWEST s, MASK s
and UNMASK s change the pointer or the mask alone. No command touches the pending set, and one that names a
number over 8 is dropped. -/
def Obligations.NoticeCommands : Prop :=
  (∀ (s : State) (source : Byte),
    let same (c : NoticeController) :=
      c.pending = s.notice.pending ∧ c.masked = s.notice.masked ∧ c.mode = s.notice.mode ∧
        c.messageEnable = s.notice.messageEnable
    (∀ x : Source, x.val = source.toNat → ∃ c, exec (.endSource source) s = .next { s with notice := c } ∧
      c.inService = s.notice.inService.set x false ∧ c.lowest = s.notice.lowest ∧ same c) ∧
    (9 ≤ source.toNat → exec (.endSource source) s = .next { s with dropped := true }) ∧
    ((∀ x : Source, s.notice.inService[x] = false) →
      exec (.endAny source) s = .next s ∧ exec (.endAnyRotate source) s = .next s) ∧
    (∀ x : Source, s.notice.inService[x] = true →
      (∀ y : Source, s.notice.inService[y] = true →
        sourceRank s.notice.lowest x ≤ sourceRank s.notice.lowest y) →
      (∃ c, exec (.endAny source) s = .next { s with notice := c } ∧
        c.inService = s.notice.inService.set x false ∧ c.lowest = s.notice.lowest ∧ same c) ∧
      (∃ c, exec (.endAnyRotate source) s = .next { s with notice := c } ∧
        c.inService = s.notice.inService.set x false ∧ c.lowest = x ∧ same c))) ∧
  ∀ (s : State) (source : Byte),
    let same (c : NoticeController) :=
      c.pending = s.notice.pending ∧ c.inService = s.notice.inService ∧ c.mode = s.notice.mode ∧
        c.messageEnable = s.notice.messageEnable
    (∀ x : Source, x.val = source.toNat →
      (∃ c, exec (.lowest source) s = .next { s with notice := c } ∧ c.lowest = x ∧
        c.masked = s.notice.masked ∧ same c) ∧
      (∃ c, exec (.mask source) s = .next { s with notice := c } ∧ c.lowest = s.notice.lowest ∧
        c.masked = s.notice.masked.set x true ∧ same c) ∧
      (∃ c, exec (.unmask source) s = .next { s with notice := c } ∧ c.lowest = s.notice.lowest ∧
        c.masked = s.notice.masked.set x false ∧ same c)) ∧
    (9 ≤ source.toNat →
      exec (.lowest source) s = .next { s with dropped := true } ∧
      exec (.mask source) s = .next { s with dropped := true } ∧
      exec (.unmask source) s = .next { s with dropped := true })

/-- Whatever the command, a rise of "line condition true and message enable set" makes one message due, at most
one behind the one in flight; nothing else makes one due, and nothing but MESSAGE and the resets sends or drops
one. How a message is kept is an inference (notes/assumptions/5.md). -/
def Obligations.MessagesFollowRises : Prop :=
  ∀ (c : Instr) (s t : State), c.wellFormed = true → exec c s = .next t →
    (∀ o, c ≠ .message o) → (∀ w, c ≠ .engineReset w) → (∀ r, c ≠ .coldReset r) →
    let condition (s : State) := s.notice.line && s.notice.messageEnable
    (condition s = false → condition t = true →
      t.notice.inFlight = true ∧ t.notice.due = (s.notice.due || s.notice.inFlight)) ∧
    (¬ (condition s = false ∧ condition t = true) →
      t.notice.inFlight = s.notice.inFlight ∧ t.notice.due = s.notice.due) ∧
    t.notice.sent = s.notice.sent ∧ t.notice.lastSent = s.notice.lastSent

/-- MESSAGE sends the message in flight when the outlet is open and loses it otherwise, and the one due behind
it follows; the sets do not change. The record of what was sent is the model's own. How a message is kept is an
inference (notes/assumptions/5.md). -/
def Obligations.MessageIsSentOrLost : Prop :=
  ∀ (s : State) (o : MessageOutlet),
    let isOpen := o.msiEnabled = true ∧ o.busMaster = true ∧ o.linkUp = true
    (s.notice.inFlight = true →
      exec (.message o) s = .next
        { s with
          notice :=
            { s.notice with
              inFlight := s.notice.due, due := false
              sent := if isOpen then s.notice.sent + 1 else s.notice.sent
              lastSent := if isOpen then some (o.address, o.data) else s.notice.lastSent } }) ∧
    (s.notice.inFlight = false → exec (.message o) s = .next s)

/-! ### Holdoff (R150 to R155) -/

/-- A tick of a running timer decrements a counter above 0 and is an underflow at 0, and a stopped timer takes
neither event. A ONESHOT underflow releases the held events and stops; a REPEAT underflow loads the counter and
releases the held events, if there are any. That the two rows share the underflow is an inference
(notes/assumptions/9.md). -/
def Obligations.TicksAndUnderflows : Prop :=
  ∀ (s : State) (n : LaneNo),
    let l := s.lanes[n]
    let underflow (mode : HoldoffMode) : Timer :=
      { l.timer with
        held := 0
        running := decide (mode = HoldoffMode.repeating)
        counter := if mode = HoldoffMode.repeating then l.timer.reload else l.timer.counter
        interval := if mode = HoldoffMode.repeating then 0 else l.timer.interval }
    (l.timer.running = false → exec (.holdoffTick n) s = .next s ∧ exec (.holdoffUnderflow n) s = .next s) ∧
    (l.timer.running = true → 0 < l.timer.counter →
      exec (.holdoffTick n) s =
        .next (s.setLane n { l with timer := { l.timer with counter := l.timer.counter - 1, interval := 0 } }) ∧
      exec (.holdoffUnderflow n) s = .next s) ∧
    (l.timer.running = true → l.timer.counter = 0 → l.timer.mode ≠ .off →
      ∀ c, c = .holdoffTick n ∨ c = .holdoffUnderflow n →
        exec c s = .next
          { s.setLane n { l with timer := underflow l.timer.mode } with
            notice := if 0 < l.timer.held then s.notice.raise n.succ else s.notice })

/-- `k` ticks of a running timer, as the first `k` commands of the queue, take its counter down by `k`, and
raise nothing while it does not pass 0. -/
def Obligations.TicksCountTheReloadDown : Prop :=
  ∀ (s : State) (n : LaneNo) (k : Nat) (rest : List Instr),
    s.pending = List.replicate k (.holdoffTick n) ++ rest → s.lanes[n].timer.running = true →
    1 ≤ k → k ≤ s.lanes[n].timer.counter →
    Host.Core.run core k s = .next
      ({ s with pending := rest }.setLane n
        { s.lanes[n] with
          timer := { s.lanes[n].timer with counter := s.lanes[n].timer.counter - k, interval := 0 } })

/-- The host half read at step 1 of the start sequence: the settings with their clamps, the timer loaded and
running in REPEAT mode alone, the condition RUNNING, and the device-half write issued. -/
def Obligations.HostHalfConfiguresTheTimer : Prop :=
  ∀ (s : State) (n : LaneNo) (a : Addr) (half : List Byte),
    s.lanes[n].request = some (.hostHalfRead a) → half.length = 64 →
    let byte (i : Nat) := (half.getD i 0).toNat
    let mode : HoldoffMode := if byte 8 = 1 then .oneshot else if byte 8 = 2 then .repeating else .off
    let reload := byte 12 + 256 * byte 13
    let l := { s.lanes[n] with
      condition := .running
      timer :=
        { s.lanes[n].timer with
          mode := mode, threshold := if byte 9 = 0 then 1 else byte 9
          reload := reload, prescale := if byte 10 % 16 = 15 then 14 else byte 10 % 16
          counter := reload, running := decide (mode = HoldoffMode.repeating), interval := 0 } }
    exec (.hostHalfReadDone n ⟨s.epoch, .ok half⟩) s = .next (s.setLane n
      { l with request := some (.recordWrite .start (recordAddress s.area n + 0x40) l.deviceHalf) })

/-! ### The check (R8 to R12, R25 to R27) -/

/-- The end of the start sequence and the end of a skip are check boundaries: a check begins with the link read
and the latch cleared, or the lane enters STOPPED when stop pending is set. -/
def Obligations.StartAndSkipWritesReachTheCheckBoundary : Prop :=
  ∀ (s : State) (n : LaneNo) (a : Addr) (bytes : List Byte) (c : Instr),
    let l := s.lanes[n]
    (l.request = some (.recordWrite .start a bytes) ∧ c = .startRecordWriteDone n ⟨s.epoch, .ok⟩ ∨
      l.request = some (.recordWrite .skip a bytes) ∧ c = .skipWriteDone n ⟨s.epoch, .ok⟩) →
    (l.stopPending = false → exec c s = .next (s.setLane n
      { l with
        state := .checking, postLatch := false
        request := some (.linkRead (if l.cursor = 0 then recordAddress s.area n else l.cursor + 0x10)) })) ∧
    (l.stopPending = true →
      let stopped := { l with
        state := .stopped, postLatch := false, stopPending := false, condition := .stopped,
        timer := { l.timer with running := false, held := 0 } }
      exec c s = .next (s.setLane n
        { stopped with
          request := some (.recordWrite .stop (recordAddress s.area n + 0x40) stopped.deviceHalf) }))

/-- A link of 0 and an EMPTY docket: WAITING, a new link read when the post latch is set, or STOPPED when stop
pending is set; the cursor does not move. -/
def Obligations.FindingNothingWaitsRereadsOrStops : Prop :=
  ∀ (s : State) (n : LaneNo) (a : Addr) (c : Instr),
    let l := s.lanes[n]
    (l.request = some (.linkRead a) ∧ c = .linkReadDone n ⟨s.epoch, .ok 0⟩ ∨
      l.request = some (.stateWordRead a) ∧ c = .stateWordReadDone n ⟨s.epoch, .ok 0⟩) →
    (l.postLatch = false → l.stopPending = false →
      exec c s = .next (s.setLane n { l with state := .waiting, request := none })) ∧
    (l.postLatch = true → l.stopPending = false → exec c s = .next (s.setLane n
      { l with
        state := .checking, postLatch := false
        request := some (.linkRead (if l.cursor = 0 then recordAddress s.area n else l.cursor + 0x10)) })) ∧
    (l.stopPending = true →
      let stopped := { l with
        state := .stopped, postLatch := false, stopPending := false, condition := .stopped,
        timer := { l.timer with running := false, held := 0 } }
      exec c s = .next (s.setLane n
        { stopped with
          request := some (.recordWrite .stop (recordAddress s.area n + 0x40) stopped.deviceHalf) }))

/-- The check of a POSTED docket, request by request: the state word at the link, then bytes 4 to 255, then
the claim, with the copy taken before it. A WITHDRAWN docket, found by the docket read or by the claim: the
cursor moves onto it, the skipped count grows by 1, the device-half write is issued, and neither the finished
count nor the last sequence changes. -/
def Obligations.PostedDocketIsClaimedAndWithdrawnSkipped : Prop :=
  (∀ (s : State) (n : LaneNo) (a : Addr),
    let l := s.lanes[n]
    (l.request = some (.linkRead a) → ∀ link : Addr, link ≠ 0 → link.toNat % 64 = 0 →
      exec (.linkReadDone n ⟨s.epoch, .ok link⟩) s =
        .next (s.setLane n { l with docket := link, request := some (.stateWordRead link) })) ∧
    (l.request = some (.stateWordRead a) →
      exec (.stateWordReadDone n ⟨s.epoch, .ok 1⟩) s =
        .next (s.setLane n { l with request := some (.docketRead (l.docket + 4)) })) ∧
    (l.request = some (.docketRead a) → ∀ bytes : List Byte,
      exec (.docketReadDone n ⟨s.epoch, .ok bytes⟩) s =
        .next (s.setLane n
          { l with copy := some ([1, 0, 0, 0] ++ bytes), request := some (.claim l.docket 1 2) }))) ∧
  ∀ (s : State) (n : LaneNo) (a : Addr) (expected replacement : Word) (c : Instr),
    let l := s.lanes[n]
    (l.request = some (.stateWordRead a) ∧ c = .stateWordReadDone n ⟨s.epoch, .ok 5⟩ ∨
      l.request = some (.claim a expected replacement) ∧ c = .claimDone n ⟨s.epoch, .ok 5⟩) →
    let skipped := { l with cursor := l.docket, skipped := l.skipped + 1, copy := none }
    exec c s = .next (s.setLane n
      { skipped with
        request := some (.recordWrite .skip (recordAddress s.area n + 0x40) skipped.deviceHalf) })

/-! ### Claimed dockets (R28 to R30, R128, R140 to R143) -/

/-- A claimed docket that is not an ITEM: refused with KIND when its kind is unknown, and executed from its
copy when it is an OPEN, a CLOSE or a STAGE, up to its report or its request to the profile store. -/
def Obligations.ControlDocketsExecuteFromTheCopy : Prop :=
  ∀ (s : State) (n : LaneNo) (a : Addr) (expected replacement : Word) (copy : List Byte),
    s.lanes[n].request = some (.claim a expected replacement) → s.lanes[n].copy = some copy →
    let l := { s.lanes[n] with holds := true, state := .active }
    let byte (i : Nat) := (copy.getD i 0).toNat
    let claimed := exec (.claimDone n ⟨s.epoch, .ok 1⟩) s
    let reports (r : Report) : Host.Outcome State Fault Refusal := .next (s.setLane n
      { l with
        storeRequest := none, report := some r
        request := some (.resultWrite (l.docket + 0xA0) (resultSection (wordField copy 8) r)) })
    let refuses (code : RefusalCode) :=
      claimed = reports { refusal := code, result := List.replicate 91 0, change := .none }
    let asks (r : StoreRequest) := claimed = .next (s.setLane n { l with request := none, storeRequest := some r })
    (byte 4 = 0 ∨ 4 < byte 4 → refuses .kind) ∧
    (byte 4 = 2 → l.bundle.isOpen = true → refuses .bundleState) ∧
    (byte 4 = 2 → l.bundle.isOpen = false → asks (.openBundle (wordField copy 0x18))) ∧
    (byte 4 = 3 → l.bundle.isOpen = false → refuses .bundleState) ∧
    (byte 4 = 3 → l.bundle.isOpen = true → wordField copy 0x18 ≠ l.bundle.id → refuses .bundleId) ∧
    (byte 4 = 3 → l.bundle.isOpen = true → wordField copy 0x18 = l.bundle.id →
      claimed = reports { refusal := .none, result := closeResultBytes l.bundle, change := .closed }) ∧
    (byte 4 = 4 → 15 < byte 0x18 → refuses .profile) ∧
    (byte 4 = 4 → byte 0x18 ≤ 15 → byte 0x19 = 0 ∨ 3 < byte 0x19 → refuses .trigger) ∧
    (byte 4 = 4 → byte 0x18 ≤ 15 → byte 0x19 = 2 → 7 < byte 0x1A → refuses .trigger) ∧
    (∀ p : Fin 16, byte 4 = 4 → p.val = byte 0x18 →
      (byte 0x19 = 1 → asks (.now p (stageUpdate copy))) ∧
      (∀ m : LaneNo, byte 0x19 = 2 → m.val = byte 0x1A →
        asks (.atOpen { profile := p, lane := m, update := stageUpdate copy })) ∧
      (byte 0x19 = 3 → asks (.cancel p)))

/-- A claimed ITEM: the lane waits in HOLDING with its request in the set while no unit is IDLE. With a unit
IDLE and no other request, it goes ACTIVE on that unit at once, unit 0 before unit 1; an admitted item waits
there for its snapshot, and a refused one is reported and leaves the unit IDLE. That grant and admission lie in
one step is an inference (notes/assumptions/11.md). -/
def Obligations.ClaimedItemAsksForAUnit : Prop :=
  ∀ (s : State) (n : LaneNo) (a : Addr) (expected replacement : Word) (copy : List Byte),
    s.lanes[n].request = some (.claim a expected replacement) → s.lanes[n].copy = some copy →
    (copy.getD 4 0).toNat = 1 → s.engine = .running → (∀ (u : UnitNo) m c, s.units[u] ≠ .admitting m c none) →
    let l := { s.lanes[n] with holds := true, request := none }
    let rotation := if s.dispatchMode = DispatchMode.rotating then n else s.rotation
    ((∀ u : UnitNo, s.units[u] ≠ .idle) →
      exec (.claimDone n ⟨s.epoch, .ok 1⟩) s = .next
        { s with lanes := s.lanes.set n { l with state := .holding }, requests := s.requests.set n true }) ∧
    ((∀ m : LaneNo, s.requests[m] = false) → ∀ u : UnitNo, s.units[u] = .idle →
      (u = 1 → s.units[(0 : UnitNo)] ≠ .idle) →
      (∀ p, admission copy = .admitted p →
        exec (.claimDone n ⟨s.epoch, .ok 1⟩) s = .next
          { s with
            lanes := s.lanes.set n { l with state := .active }, rotation := rotation
            units := s.units.set u (.admitting n copy (some p)) }) ∧
      (∀ code, admission copy = .refused code →
        let r : Report := { refusal := code, result := List.replicate 91 0, change := .itemRefused }
        exec (.claimDone n ⟨s.epoch, .ok 1⟩) s = .next
          { s with
            lanes := s.lanes.set n
              { l with
                state := .active, storeRequest := none, report := some r
                request := some (.resultWrite (l.docket + 0xA0) (resultSection (wordField copy 8) r)) }
            rotation := rotation }))

/-! ### Reports, faults and halts (R16, R17, R27, R31 to R34, R36, R152, R176) -/

/-- Steps 1 and 2 of a report: the state word DONE or REFUSED is written after the result section, and after it
the lane stops holding the docket, moves its cursor, counts the docket, takes its sequence number, makes the
prepared change to its bundle and writes its device half. -/
def Obligations.ReportStepsOneAndTwo : Prop :=
  ∀ (s : State) (n : LaneNo) (r : Report) (a : Addr),
    let l := s.lanes[n]
    l.report = some r →
    (∀ bytes, l.request = some (.resultWrite a bytes) →
      exec (.resultSectionWriteDone n ⟨s.epoch, .ok⟩) s = .next (s.setLane n
        { l with request := some (.stateWordWrite l.docket (if r.refusal = .none then 3 else 4)) })) ∧
    (∀ v, l.request = some (.stateWordWrite a v) →
      let l' := { l with
        holds := false, cursor := l.docket, finished := l.finished + 1
        lastSequence := wordField (l.copy.getD []) 8, bundle := l.bundle.change r.change }
      exec (.stateWordWriteDone n ⟨s.epoch, .ok⟩) s = .next (s.setLane n
        { l' with request := some (.recordWrite .report (recordAddress s.area n + 0x40) l'.deviceHalf) }))

/-- The changes to a bundle: an OPEN sets the flag and the id and clears the counters, a CLOSE clears the flag
and the counters and keeps the id, and an ITEM is counted, modulo 2^32, only while the flag is set. -/
def Obligations.BundleChangesAtStepThree : Prop :=
  ∀ b : Bundle,
    (∀ id, b.change (.opened id) =
      { isOpen := true, id := id, itemsDone := 0, itemsRefused := 0, sidesCoded := 0, bytes := 0, flagged := 0,
        oversize := 0, errors := 0 }) ∧
    b.change .closed =
      { isOpen := false, id := b.id, itemsDone := 0, itemsRefused := 0, sidesCoded := 0, bytes := 0,
        flagged := 0, oversize := 0, errors := 0 } ∧
    b.change .none = b ∧
    (b.isOpen = false → b.change .itemRefused = b ∧ ∀ o k m, b.change (.itemDone o k m) = b) ∧
    (b.isOpen = true → b.change .itemRefused = { b with itemsRefused := b.itemsRefused + 1 } ∧
      ∀ o k m, ∃ b', b.change (.itemDone o k m) = b' ∧ b'.isOpen = true ∧ b'.id = b.id ∧
        b'.itemsRefused = b.itemsRefused ∧
        b'.itemsDone.toNat = (b.itemsDone.toNat + 1) % 2 ^ 32 ∧
        b'.sidesCoded.toNat = (b.sidesCoded.toNat + k) % 2 ^ 32 ∧
        b'.bytes.toNat = (b.bytes.toNat + m) % 2 ^ 32 ∧
        b'.flagged.toNat = (b.flagged.toNat + if o = .flagged then 1 else 0) % 2 ^ 32 ∧
        b'.oversize.toNat = (b.oversize.toNat + if o = .oversize then 1 else 0) % 2 ^ 32 ∧
        b'.errors.toNat = (b.errors.toNat + if o = .readError ∨ o = .writeError then 1 else 0) % 2 ^ 32)

/-- The end of step 3: the completion event by the table of R152, the copy discarded, and the check boundary. -/
def Obligations.ReportEndsWithACompletionEvent : Prop :=
  ∀ (s : State) (n : LaneNo) (a : Addr) (bytes : List Byte),
    let l := s.lanes[n]
    l.request = some (.recordWrite .report a bytes) →
    let released := l.timer.mode = .off ∨ l.timer.threshold ≤ l.timer.held + 1
    let timer : Timer :=
      if released then
        { l.timer with held := 0, running := if l.timer.mode = .oneshot then false else l.timer.running }
      else if l.timer.mode = .oneshot ∧ l.timer.running = false then
        { l.timer with held := l.timer.held + 1, running := true, counter := l.timer.reload, interval := 0 }
      else { l.timer with held := l.timer.held + 1 }
    let notice := if released then s.notice.raise n.succ else s.notice
    let l' := { l with copy := none, report := none, postLatch := false }
    (l.stopPending = false → exec (.reportRecordWriteDone n ⟨s.epoch, .ok⟩) s = .next
      { s.setLane n
          { l' with
            state := .checking, timer := timer
            request :=
              some (.linkRead (if l.cursor = 0 then recordAddress s.area n else l.cursor + 0x10)) } with
        notice := notice }) ∧
    (l.stopPending = true →
      let stopped := { l' with
        state := .stopped, stopPending := false, condition := .stopped,
        timer := { timer with running := false, held := 0 } }
      exec (.reportRecordWriteDone n ⟨s.epoch, .ok⟩) s = .next
        { s.setLane n
            { stopped with
              request := some (.recordWrite .stop (recordAddress s.area n + 0x40) stopped.deviceHalf) } with
          notice := notice })

/-- The end of a stop or fault write raises the lane's source at once; a START that waited for it then reads the
host half. The START that waited is an inference (notes/assumptions/16.md). -/
def Obligations.StopAndFaultWritesRaiseTheSource : Prop :=
  ∀ (s : State) (n : LaneNo) (a : Addr) (bytes : List Byte) (c : Instr),
    let l := s.lanes[n]
    (l.request = some (.recordWrite .stop a bytes) ∧ c = .stopRecordWriteDone n ⟨s.epoch, .ok⟩ ∨
      l.request = some (.recordWrite .fault a bytes) ∧ c = .faultRecordWriteDone n ⟨s.epoch, .ok⟩) →
    exec c s = .next
      { s.setLane n
          { l with
            startDue := false
            request := if l.startDue then some (.hostHalfRead (recordAddress s.area n)) else none } with
        notice := s.notice.raise n.succ }

/-- Every lane fault, with its cause, its code and the docket address it reports, and all that it does: the
cursor, the finished and skipped counts, the last sequence and the bundle keep their values. -/
def Obligations.LaneFaultsByCause : Prop :=
  ∀ (s : State) (n : LaneNo) (a : Addr) (v e r : Word) (link : Addr) (bytes : List Byte) (c : Instr)
      (code : FaultCode) (docket : Addr),
    let l := s.lanes[n]
    (l.request = some (.hostHalfRead a) ∧ c = .hostHalfReadDone n ⟨s.epoch, .error⟩ ∧ code = .linkRead ∧
        docket = l.cursor ∨
      l.request = some (.linkRead a) ∧ c = .linkReadDone n ⟨s.epoch, .error⟩ ∧ code = .linkRead ∧
        docket = l.cursor ∨
      l.request = some (.linkRead a) ∧ link.toNat % 64 ≠ 0 ∧ c = .linkReadDone n ⟨s.epoch, .ok link⟩ ∧
        code = .badLink ∧ docket = link ∨
      l.request = some (.stateWordRead a) ∧ c = .stateWordReadDone n ⟨s.epoch, .error⟩ ∧ code = .linkRead ∧
        docket = l.docket ∨
      l.request = some (.stateWordRead a) ∧ v ∉ ([0, 1, 5] : List Word) ∧
        c = .stateWordReadDone n ⟨s.epoch, .ok v⟩ ∧ code = .badState ∧ docket = l.docket ∨
      l.request = some (.docketRead a) ∧ c = .docketReadDone n ⟨s.epoch, .error⟩ ∧ code = .linkRead ∧
        docket = l.docket ∨
      l.request = some (.claim a e r) ∧ c = .claimDone n ⟨s.epoch, .error⟩ ∧ code = .claimFailed ∧
        docket = l.docket ∨
      l.request = some (.claim a e r) ∧ v ∉ ([1, 5] : List Word) ∧ c = .claimDone n ⟨s.epoch, .ok v⟩ ∧
        code = .badState ∧ docket = l.docket ∨
      l.request = some (.resultWrite a bytes) ∧ l.report ≠ none ∧ c = .resultSectionWriteDone n ⟨s.epoch, .error⟩ ∧
        code = .resultWrite ∧ docket = l.docket ∨
      l.request = some (.stateWordWrite a v) ∧ l.report ≠ none ∧ c = .stateWordWriteDone n ⟨s.epoch, .error⟩ ∧
        code = .resultWrite ∧ docket = l.docket) →
    let faulted := { l with
      state := .faulted, postLatch := false, stopPending := false, copy := none, holds := false
      report := none, storeRequest := none, timer := { l.timer with running := false, held := 0 }
      lastFault := code, lastFaultDocket := docket, faults := l.faults + 1, condition := .faulted }
    exec c s = .next (s.setLane n
      { faulted with
        request := some (.recordWrite .fault (recordAddress s.area n + 0x40) faulted.deviceHalf) })

/-- A device-half write that ends in error, on any of its five occasions, halts the engine as one change: cause
RECORD_WRITE, every unit IDLE, every lane frozen with its state, flags, cursor, counts, bundle, settings,
counter and held count kept, the request set empty, and ENGINE raised. The epoch that begins, by which the model
knows the results of the requests abandoned, is its own (notes/assumptions/3.md). -/
def Obligations.FailedRecordWriteHalts : Prop :=
  ∀ (s : State) (n : LaneNo) (a : Addr) (bytes : List Byte) (c : Instr),
    (s.lanes[n].request = some (.recordWrite .start a bytes) ∧ c = .startRecordWriteDone n ⟨s.epoch, .error⟩ ∨
      s.lanes[n].request = some (.recordWrite .skip a bytes) ∧ c = .skipWriteDone n ⟨s.epoch, .error⟩ ∨
      s.lanes[n].request = some (.recordWrite .report a bytes) ∧ c = .reportRecordWriteDone n ⟨s.epoch, .error⟩ ∨
      s.lanes[n].request = some (.recordWrite .stop a bytes) ∧ c = .stopRecordWriteDone n ⟨s.epoch, .error⟩ ∨
      s.lanes[n].request = some (.recordWrite .fault a bytes) ∧ c = .faultRecordWriteDone n ⟨s.epoch, .error⟩) →
    ∃ lanes, exec c s = .next
        { s with
          engine := .halted, haltCause := .recordWrite, units := Vector.replicate 2 .idle
          requests := Vector.replicate 8 false, notice := s.notice.raise 0, epoch := s.epoch + 1, lanes := lanes } ∧
      ∀ m : LaneNo, lanes[m] =
        { s.lanes[m] with
          request := none, startDue := false, copy := none, holds := false, storeRequest := none
          report := none, timer := { s.lanes[m].timer with running := false } }

/-- A result that returns after a halt or a reset has begun a new epoch is discarded, whatever its issuer has in
flight by then; and of the current epoch, the end of a request, or the taking of a store request, that its issuer
does not have is discarded: a lane with another request or none, and a unit with no such read or write of its
attempt. How the model tells a request's own result is an inference from R15, R36, R37 and R60
(notes/assumptions/3.md). -/
def Obligations.AbandonedResultsAreDiscarded : Prop :=
  ∀ (s : State) (n : LaneNo) (u : UnitNo),
    let l := s.lanes[n]
    (∀ e, e ≠ s.epoch →
      (∀ r, exec (.hostHalfReadDone n ⟨e, r⟩) s = .next s) ∧
      (∀ r, exec (.startRecordWriteDone n ⟨e, r⟩) s = .next s) ∧
      (∀ r, exec (.linkReadDone n ⟨e, r⟩) s = .next s) ∧
      (∀ r, exec (.stateWordReadDone n ⟨e, r⟩) s = .next s) ∧
      (∀ r, exec (.docketReadDone n ⟨e, r⟩) s = .next s) ∧ (∀ r, exec (.claimDone n ⟨e, r⟩) s = .next s) ∧
      (∀ r, exec (.skipWriteDone n ⟨e, r⟩) s = .next s) ∧
      (∀ r, exec (.resultSectionWriteDone n ⟨e, r⟩) s = .next s) ∧
      (∀ r, exec (.stateWordWriteDone n ⟨e, r⟩) s = .next s) ∧
      (∀ r, exec (.reportRecordWriteDone n ⟨e, r⟩) s = .next s) ∧
      (∀ r, exec (.stopRecordWriteDone n ⟨e, r⟩) s = .next s) ∧
      (∀ r, exec (.faultRecordWriteDone n ⟨e, r⟩) s = .next s) ∧
      (∀ row off r, exec (.sourceReadDone u row off ⟨e, r⟩) s = .next s) ∧
      ∀ index r, exec (.outputWriteDone u index ⟨e, r⟩) s = .next s) ∧
    ((∀ a, l.request ≠ some (.hostHalfRead a)) → ∀ x, exec (.hostHalfReadDone n x) s = .next s) ∧
    ((∀ a b, l.request ≠ some (.recordWrite .start a b)) → ∀ x, exec (.startRecordWriteDone n x) s = .next s) ∧
    ((∀ a, l.request ≠ some (.linkRead a)) → ∀ x, exec (.linkReadDone n x) s = .next s) ∧
    ((∀ a, l.request ≠ some (.stateWordRead a)) → ∀ x, exec (.stateWordReadDone n x) s = .next s) ∧
    ((∀ a, l.request ≠ some (.docketRead a)) → ∀ x, exec (.docketReadDone n x) s = .next s) ∧
    ((∀ a v w, l.request ≠ some (.claim a v w)) → ∀ x, exec (.claimDone n x) s = .next s) ∧
    ((∀ a b, l.request ≠ some (.recordWrite .skip a b)) → ∀ x, exec (.skipWriteDone n x) s = .next s) ∧
    ((∀ a b, l.request ≠ some (.resultWrite a b)) → ∀ x, exec (.resultSectionWriteDone n x) s = .next s) ∧
    ((∀ a v, l.request ≠ some (.stateWordWrite a v)) → ∀ x, exec (.stateWordWriteDone n x) s = .next s) ∧
    ((∀ a b, l.request ≠ some (.recordWrite .report a b)) → ∀ x, exec (.reportRecordWriteDone n x) s = .next s) ∧
    ((∀ a b, l.request ≠ some (.recordWrite .stop a b)) → ∀ x, exec (.stopRecordWriteDone n x) s = .next s) ∧
    ((∀ a b, l.request ≠ some (.recordWrite .fault a b)) → ∀ x, exec (.faultRecordWriteDone n x) s = .next s) ∧
    ((∀ p v, l.storeRequest ≠ some (.now p v)) → exec (.stageNow n) s = .next s) ∧
    ((∀ entry, l.storeRequest ≠ some (.atOpen entry)) → exec (.stageAtOpen n) s = .next s) ∧
    ((∀ p, l.storeRequest ≠ some (.cancel p)) → exec (.stageCancel n) s = .next s) ∧
    ((∀ id, l.storeRequest ≠ some (.openBundle id)) → exec (.openBundle n) s = .next s) ∧
    ((∀ m copy p, s.units[u] ≠ .admitting m copy (some p)) → exec (.snapshot u) s = .next s) ∧
    (s.units[u].attempt = none →
      (∀ row off x, exec (.sourceReadDone u row off x) s = .next s) ∧
      ∀ index x, exec (.outputWriteDone u index x) s = .next s) ∧
    ∀ it d sd, s.units[u].attempt = some (it, d, sd) →
      (∀ row off, (∀ r ∈ sd.reads, r.row = row → r.off = off → r.bytes ≠ none) →
        ∀ x, exec (.sourceReadDone u row off x) s = .next s) ∧
      (∀ row off bytes e,
        (∀ r ∈ sd.reads, r.row = row → r.off = off → r.bytes = none → bytes.length ≠ r.len) →
        exec (.sourceReadDone u row off ⟨e, .ok bytes⟩) s = .next s) ∧
      ∀ index, (∀ w ∈ sd.writes, w.index ≠ index) → ∀ x, exec (.outputWriteDone u index x) s = .next s

/-! ### The profile store (R120 to R134, R140) -/

/-- NOW applies its update, AT_OPEN appends its entry or is refused with SLOTS_FULL, and CANCEL removes the
entries of its profile; each is reported with the generation and the count of its rule. -/
def Obligations.StageRequestsAreTakenWhole : Prop :=
  ∀ (s : State) (n : LaneNo),
    let l := s.lanes[n]
    let reports (r : Report) : Lane := { l with
      state := .active, storeRequest := none, report := some r
      request := some (.resultWrite (l.docket + 0xA0) (resultSection (wordField (l.copy.getD []) 8) r)) }
    let done (generation : BitVec 16) (count : Nat) : Report :=
      { refusal := .none, result := stageResultBytes generation count, change := .none }
    (∀ p u, l.storeRequest = some (.now p u) →
      exec (.stageNow n) s = .next
        { s with
          store := s.store.applyUpdate p u
          lanes := s.lanes.set n (reports (done (s.store.profiles[p].generation + 1) 0)) }) ∧
    (∀ e : StageEntry, l.storeRequest = some (.atOpen e) →
      (s.store.stageList.length < 4 →
        exec (.stageAtOpen n) s = .next
          { s with
            store := { s.store with stageList := s.store.stageList ++ [e] }
            lanes := s.lanes.set n (reports
              (done s.store.profiles[e.profile].generation (s.store.stageList.length + 1))) }) ∧
      (4 ≤ s.store.stageList.length →
        exec (.stageAtOpen n) s = .next (s.setLane n (reports
          { refusal := .slotsFull, result := List.replicate 91 0, change := .none })))) ∧
    (∀ p, l.storeRequest = some (.cancel p) →
      exec (.stageCancel n) s = .next
        { s with
          store := { s.store with stageList := s.store.stageList.filter fun e => e.profile ≠ p }
          lanes := s.lanes.set n (reports (done s.store.profiles[p].generation
            (s.store.stageList.countP fun e => e.profile = p))) })

/-- OPEN applies the entries that wait for the lane, in list order, each a separate application, and leaves the
others in place; the bundle to be opened and the number of entries are reported. -/
def Obligations.OpenAppliesTheLanesEntriesInOrder : Prop :=
  (∀ (s : State) (n : LaneNo) (id : Word), s.lanes[n].storeRequest = some (.openBundle id) →
    let l := s.lanes[n]
    let r : Report :=
      { refusal := .none, change := .opened id
        result := openResultBytes (s.store.stageList.countP fun e => e.lane = n) }
    exec (.openBundle n) s = .next
      { s with
        store := s.store.openLane n
        lanes := s.lanes.set n
          { l with
            state := .active, storeRequest := none, report := some r
            request :=
              some (.resultWrite (l.docket + 0xA0) (resultSection (wordField (l.copy.getD []) 8) r)) } }) ∧
  ∀ (n : LaneNo) (profiles : Vector ProfileVersion 16) (e : StageEntry) (es : List StageEntry),
    let rest : ProfileStore := { profiles := profiles, stageList := es }
    ProfileStore.openLane { profiles := profiles, stageList := [] } n = { profiles := profiles, stageList := [] } ∧
    (e.lane = n → ProfileStore.openLane { profiles := profiles, stageList := e :: es } n =
      (rest.applyUpdate e.profile e.update).openLane n) ∧
    (e.lane ≠ n → ProfileStore.openLane { profiles := profiles, stageList := e :: es } n =
      { rest.openLane n with stageList := e :: (rest.openLane n).stageList })

/-- An application: the fields its mask enables, clamped into their ranges; then in each bound pair an upper
value below its lower value is raised to it; then the generation by 1. It keeps every field in its range and
every pair in order, and changes no other profile and not the stage list. -/
def Obligations.ApplicationClampsThenOrdersThePairs : Prop :=
  (∀ (v : ProfileVersion) (u : Update),
    let written (i : Fin 16) (lo hi old : Nat) : Nat :=
      if u.mask.getLsbD i.val then
        if u.values[i].toNat < lo then lo else if hi < u.values[i].toNat then hi else u.values[i].toNat
      else old
    let upper (lower high : Nat) : Nat := if high < lower then lower else high
    let f := v.fields
    let tFloor := written 2 0 255 f.tFloor
    let bytesLow := written 9 0 1048576 f.bytesLow
    let inkLow := written 11 0 1000 f.inkLow
    let bgLow := written 13 0 255 f.bgLow
    v.applyUpdate u =
      { generation := v.generation + 1
        fields :=
          { outDpi := written 0 50 600 f.outDpi, contrast := written 1 32 63 f.contrast
            tFloor := tFloor, tCeil := upper tFloor (written 3 0 255 f.tCeil)
            bgStart := written 4 0 255 f.bgStart, inkGap := written 5 0 255 f.inkGap
            kTrack := written 6 0 7 f.kTrack, runOrder := written 7 0 3 f.runOrder
            fallbackLimit := written 8 0 2 f.fallbackLimit
            bytesLow := bytesLow, bytesHigh := upper bytesLow (written 10 64 1048576 f.bytesHigh)
            inkLow := inkLow, inkHigh := upper inkLow (written 12 0 1000 f.inkHigh)
            bgLow := bgLow, bgHigh := upper bgLow (written 14 0 255 f.bgHigh)
            streakLimit := written 15 0 255 f.streakLimit } } ∧
    (f.Valid → (v.applyUpdate u).fields.Valid)) ∧
  ∀ (st : ProfileStore) (p q : Fin 16) (u : Update),
    (st.applyUpdate p u).profiles[q] = (if q = p then st.profiles[p].applyUpdate u else st.profiles[q]) ∧
    (st.applyUpdate p u).stageList = st.stageList

/-! ### Dispatch and admission (R40 to R48) -/

/-- A grant pairs unit 0 when it is IDLE, else unit 1, with the lane the mode ranks first; the lane goes ACTIVE,
the unit copies its docket copy, and in ROTATING mode the pointer moves to the lane. None is made unless the
engine is RUNNING, a unit is IDLE and a lane asks. -/
def Obligations.GrantFollowsTheRanking : Prop :=
  ∀ s : State,
    (s.engine ≠ .running ∨ (∀ u : UnitNo, s.units[u] ≠ .idle) ∨ (∀ n : LaneNo, s.requests[n] = false) →
      s.grant = none) ∧
    ∀ (u : UnitNo) (n : LaneNo), s.engine = .running → s.units[u] = .idle →
      (u = 1 → s.units[(0 : UnitNo)] ≠ .idle) → s.requests[n] = true →
      (∀ m : LaneNo, s.requests[m] = true →
        match s.dispatchMode with
        | .fixed => n.val ≤ m.val
        | .rotating => (n.val + 7 - s.rotation.val) % 8 ≤ (m.val + 7 - s.rotation.val) % 8) →
      s.grant = some
        { s with
          requests := s.requests.set n false
          rotation := if s.dispatchMode = .rotating then n else s.rotation
          units := s.units.set u (.admitting n (s.lanes[n].copy.getD []) none)
          lanes := s.lanes.set n { s.lanes[n] with state := .active } }

/-- The dispatcher's work: nothing where no grant can be made; else a grant, another where a second one can be made,
the admissions of the units granted, and its work again. The admission of a granted item hands a refusal back to
its lane, which reports it, with the unit IDLE again, or leaves the unit to its snapshot. So it goes on until no
unit is IDLE or no lane asks; a lane that asks goes on asking, untouched, or is granted, and no other lane is
touched. That grants and admissions lie in one step, in this order, is an inference (notes/assumptions/11.md). -/
def Obligations.DispatchLeavesNoUnitIdleWhileLanesAsk : Prop :=
  ∀ s : State,
    (s.grant = none → s.dispatch = s) ∧
    (∀ s₁ s₂, s.grant = some s₁ → s₁.grant = some s₂ →
      s.dispatch = ((s₂.admitUnit 0).admitUnit 1).dispatch) ∧
    (∀ s₁, s.grant = some s₁ → s₁.grant = none → s.dispatch = ((s₁.admitUnit 0).admitUnit 1).dispatch) ∧
    (∀ u : UnitNo,
      ((∀ n copy, s.units[u] ≠ .admitting n copy none) → s.admitUnit u = s) ∧
      ∀ n copy, s.units[u] = .admitting n copy none →
        (∀ p, admission copy = .admitted p →
          s.admitUnit u = { s with units := s.units.set u (.admitting n copy (some p)) }) ∧
        ∀ code, admission copy = .refused code →
          let l := s.lanes[n]
          let r : Report := { refusal := code, result := List.replicate 91 0, change := .itemRefused }
          s.admitUnit u =
            { s with
              units := s.units.set u .idle
              lanes := s.lanes.set n
                { l with
                  state := .active, storeRequest := none, report := some r
                  request :=
                    some (.resultWrite (l.docket + 0xA0) (resultSection (wordField (l.copy.getD []) 8) r)) } }) ∧
    (s.engine = .running →
      (∀ u : UnitNo, s.dispatch.units[u] ≠ .idle) ∨ (∀ n : LaneNo, s.dispatch.requests[n] = false)) ∧
    ((∀ (u : UnitNo) n copy, s.units[u] ≠ .admitting n copy none) → ∀ n : LaneNo,
      s.dispatch.requests[n] = s.requests[n] ∧ s.dispatch.lanes[n] = s.lanes[n] ∨
      s.requests[n] = true ∧ s.dispatch.requests[n] = false ∧ s.dispatch.lanes[n].state = .active)

/-- The six admission checks, in order: each refusal code is that of the first check that fails, and an item is
admitted, under its profile number, when none does. -/
def Obligations.AdmissionChecksInOrder : Prop :=
  ∀ copy : List Byte,
    let sides := frontDescriptor copy :: if itemRearPresent copy then [rearDescriptor copy] else []
    let fails : Fin 6 → Prop := fun i =>
      match i with
      | 0 => 15 < docketProfile copy
      | 1 => itemOutputAddress copy = 0 ∨ itemCapacity copy < 64
      | 2 => ∃ d ∈ sides, d.ws < 64 ∨ 4096 < d.ws ∨ d.hs < 64 ∨ 4096 < d.hs
      | 3 => ∃ d ∈ sides, d.dsrc < 100 ∨ 1200 < d.dsrc
      | 4 => ∃ d ∈ sides, d.depth ≠ 4 ∧ d.depth ≠ 8
      | 5 => ∃ d ∈ sides, d.stride < (d.ws * d.depth + 7) / 8 ∨ 1048576 < d.stride
    let code : Fin 6 → RefusalCode := fun i =>
      match i with
      | 0 => .profile
      | 1 => .output
      | 2 => .geometry
      | 3 => .resolution
      | 4 => .depth
      | 5 => .stride
    (∀ i : Fin 6, (fails i ∧ ∀ j, j < i → ¬ fails j) → admission copy = .refused (code i)) ∧
    ((∀ i, ¬ fails i) → ∃ p : Fin 16, p.val = docketProfile copy ∧ admission copy = .admitted p)

/-- The snapshot copies the profile with its generation, and the unit enters FRONT with the front at offset 0,
its budget the smaller of bytes_high and the capacity, and a fresh attempt at step 0. That a first read is
issued in the same step is the model's choice (notes/assumptions/4.md). -/
def Obligations.SnapshotEntersFront : Prop :=
  ∀ (s : State) (u : UnitNo) (n : LaneNo) (copy : List Byte) (p : Fin 16),
    s.units[u] = .admitting n copy (some p) →
    let v := s.store.profiles[p]
    ∃ sd : SideContext,
      exec (.snapshot u) s = .next
        { s with
          units := s.units.set u (.front { lane := n, copy := copy, profile := p, snapshot := v } sd)
          draws := s.draws + 1 } ∧
      sd.Fresh (frontDescriptor copy) v.fields 0 (min v.fields.bytesHigh (itemCapacity copy)) 0

/-! ### Attempts (R49 to R58, R64, R76, R81, R94, R104) -/

/-- A source row taken: its grey values are added to the accumulators; the last source row of an output row
completes it, and its averages are binarised, coded into the packer and become the previous row; the last output
row ends the stream with its padding; and where the packer reports oversize coding stops and the results of reads
that have returned are dropped. Rows are taken in increasing order, each once all its used bytes have returned,
however many reads asked for them and in whatever order they ended: the read that completes the next row takes it
and every later row that is complete. Then bytes that wait may be written, all of them once the attempt has ended,
and more reads issued; an oversize attempt with nothing left in flight and nothing to write follows the fallback
ladder at once. That all of it lies in one step is an inference (notes/assumptions/11.md), and when requests are
issued is the model's choice (notes/assumptions/4.md). -/
def Obligations.SourceRowIsScaledBinarisedAndCoded : Prop :=
  (∀ (d : SideDescriptor) (p : Profile) (bytes : List Byte) (sd : SideContext),
    let sums := accumulateFrom d.ws sd.wo 0 (d.greyRow bytes) sd.accumulators
    let row := binariseRow p sd.trackers sd.inkCounters (sums.map (·.average))
    let packer := sd.packer.append sd.budget (rowCode p.runOrder sd.previous row.colours)
    let ended := packer.finish sd.budget
    let coded := { sd with
      nextRow := sd.nextRow + 1, accumulators := List.replicate sd.wo { sum := 0, count := 0 }
      trackers := row.trackers, inkCounters := row.inkCounters, previous := some row.colours
      outRow := sd.outRow + 1, packer := packer }
    let completesRow := sd.nextRow + 1 = groupStart d.hs sd.ho (sd.outRow + 1)
    let goesOversize (k : Packer) : Prop := ∃ sd', sd.takeRow d p bytes = sd' ∧ sd'.phase = .oversize ∧
      sd'.packer = k ∧ sd'.reads = sd.reads.filter (fun r => r.bytes.isNone) ∧ sd'.writes = sd.writes ∧
      sd'.step = sd.step ∧ sd'.wo = sd.wo ∧ sd'.ho = sd.ho ∧ sd'.offset = sd.offset ∧ sd'.budget = sd.budget
    (¬ completesRow → sd.takeRow d p bytes = { sd with nextRow := sd.nextRow + 1, accumulators := sums }) ∧
    (completesRow → packer.overBudget = true → goesOversize packer) ∧
    (completesRow → packer.overBudget = false →
      (sd.outRow + 1 < sd.ho → sd.takeRow d p bytes = coded) ∧
      (sd.ho ≤ sd.outRow + 1 → ended.overBudget = false →
        sd.takeRow d p bytes = { coded with packer := ended, phase := .completed }) ∧
      (sd.ho ≤ sd.outRow + 1 → ended.overBudget = true → goesOversize ended))) ∧
  ∀ (s : State) (u : UnitNo) (it : ItemContext) (d : SideDescriptor) (sd : SideContext) (r : SourceRead)
      (bytes : List Byte) (rows : List (List SourceRead)) (later : List SourceRead),
    s.units[u].attempt = some (it, d, sd) → sd.phase = .fetching → 0 < d.usedBytes →
    r ∈ sd.reads → r.bytes = none → bytes.length = r.len →
    (∀ x ∈ sd.reads, x.row = r.row → x.off = r.off → x = r) →
    sd.reads.map (fun x => if x = r then { x with bytes := some bytes } else x) = rows.flatten ++ later →
    let bytesOf (reads : List SourceRead) : List Byte := reads.flatMap fun x => x.bytes.getD []
    (∀ i : Fin rows.length, (∀ x ∈ rows[i], x.row = sd.nextRow + i.val ∧ x.bytes ≠ none) ∧
      (bytesOf rows[i]).length = d.usedBytes) →
    (∀ x ∈ later, sd.nextRow + rows.length ≤ x.row) →
    let takes (k : Nat) : SideContext :=
      (rows.take k).foldl (fun c reads => c.takeRow d it.fields (bytesOf reads)) { sd with reads := later }
    let taken := takes rows.length
    (∀ i : Fin rows.length, (takes i.val).phase = .fetching) →
    (taken.phase = .fetching →
      let next := later.takeWhile fun x => x.row == sd.nextRow + rows.length
      (∃ x ∈ next, x.bytes = none) ∨ (bytesOf next).length ≠ d.usedBytes) →
    let outcome := exec (.sourceReadDone u r.row r.off ⟨s.epoch, .ok bytes⟩) s
    let becomes (sd' : SideContext) : Prop := outcome =
      .next { s with units := s.units.set u (s.units[u].withSide sd'), draws := s.draws + 1 }
    (taken.phase = .fetching → ∃ new sent waiting readRow readOff,
      (∀ x ∈ new, x.bytes = none) ∧ sent.flatMap (fun w => w.bytes) ++ waiting = taken.packer.waiting ∧
      becomes { taken with
        reads := later ++ new, readRow := readRow, readOff := readOff, writes := sd.writes ++ sent
        packer := { taken.packer with waiting := waiting } }) ∧
    (taken.phase ≠ .fetching → ∃ sent,
      sent.flatMap (fun w => w.bytes) = taken.packer.waiting ∧
      (taken.phase = .completed ∨ taken.reads ≠ [] ∨ sd.writes ++ sent ≠ [] →
        becomes { taken with writes := sd.writes ++ sent, packer := { taken.packer with waiting := [] } }) ∧
      (taken.phase = .oversize → taken.reads = [] → sd.writes ++ sent = [] → s.LadderOutcome u outcome))

/-- The hand-back: the unit returns to IDLE, the lane begins its report DONE with the item results, and the
dispatcher may grant the unit at once. The outcome is the first of the four that holds. That all of it lies in
one step is an inference (notes/assumptions/11.md). -/
def Obligations.HandBackReportsTheItem : Prop :=
  (∀ (s : State) (u : UnitNo) (it : ItemContext) (front rear : SideResult),
    let l := s.lanes[it.lane]
    let outcome := itemOutcome front rear
    let r : Report :=
      { refusal := .none
        result := itemResultBytes outcome u it.profile it.snapshot.generation front rear
        change := .itemDone outcome
          ((if front.status = .coded then 1 else 0) + if rear.status = .coded then 1 else 0)
          (front.byteCount + rear.byteCount) }
    s.handBack u it front rear =
      { s with
        units := s.units.set u .idle
        lanes := s.lanes.set it.lane
          { l with
            state := .active, storeRequest := none, report := some r
            request :=
              some (.resultWrite (l.docket + 0xA0) (resultSection (wordField (l.copy.getD []) 8) r)) } }.dispatch) ∧
  ∀ front rear : SideResult,
    let ends (st : SideStatus) := front.status = st ∨ rear.status = st
    let flagged := front.flags.anyQuality = true ∨ rear.flags.anyQuality = true
    (itemOutcome front rear = .readError ↔ ends .readError) ∧
    (itemOutcome front rear = .writeError ↔ ends .writeError ∧ ¬ ends .readError) ∧
    (itemOutcome front rear = .oversize ↔ ends .oversize ∧ ¬ ends .readError ∧ ¬ ends .writeError) ∧
    (itemOutcome front rear = .flagged ↔
      flagged ∧ ¬ ends .oversize ∧ ¬ ends .readError ∧ ¬ ends .writeError) ∧
    (itemOutcome front rear = .ok ↔
      ¬ flagged ∧ ¬ ends .oversize ∧ ¬ ends .readError ∧ ¬ ends .writeError)

/-- The end of an output write in success. While the attempt fetches, or while it has ended completed or oversize and
another request of it is in flight or bytes wait, that write alone leaves the writes in flight; the phase, the byte
count and all that is coded stay, and bytes that wait may be written, all of them once the attempt has ended, and more
reads issued while it fetches. The last output write of a completed attempt: the side ends CODED. A rear side, and a
front without a rear, hand the item back; a front with a rear places the rear at the next multiple of 8 with its
budget, and a rear budget of 0 makes the rear OVERSIZE at once. When requests are issued is the model's choice
(notes/assumptions/4.md). -/
def Obligations.CompletedAttemptEndsItsSideCoded : Prop :=
  (∀ (s : State) (u : UnitNo) (it : ItemContext) (d : SideDescriptor) (sd : SideContext) (w : OutputWrite),
    s.units[u].attempt = some (it, d, sd) → w ∈ sd.writes → (∀ st, sd.phase ≠ .failed st) →
    let left := sd.writes.filter fun x => x.index ≠ w.index
    let becomes (sd' : SideContext) : Prop := exec (.outputWriteDone u w.index ⟨s.epoch, .ok⟩) s =
      .next { s with units := s.units.set u (s.units[u].withSide sd'), draws := s.draws + 1 }
    (sd.phase = .fetching → ∃ new sent waiting readRow readOff,
      (∀ x ∈ new, x.bytes = none) ∧ sent.flatMap (fun x => x.bytes) ++ waiting = sd.packer.waiting ∧
      becomes { sd with
        reads := sd.reads ++ new, readRow := readRow, readOff := readOff, writes := left ++ sent
        packer := { sd.packer with waiting := waiting } }) ∧
    (sd.phase ≠ .fetching → (∃ x ∈ sd.reads, x.bytes = none) ∨ left ≠ [] ∨ sd.packer.waiting ≠ [] →
      ∃ sent, sent.flatMap (fun x => x.bytes) = sd.packer.waiting ∧
        becomes { sd with writes := left ++ sent, packer := { sd.packer with waiting := [] } })) ∧
  ∀ (s : State) (u : UnitNo) (it : ItemContext) (sd : SideContext) (w : OutputWrite),
    sd.phase = .completed → sd.reads = [] → sd.writes = [w] → sd.packer.waiting = [] →
    let ended := exec (.outputWriteDone u w.index ⟨s.epoch, .ok⟩) s
    let drawn := { s with draws := s.draws + 1 }
    let coded := codedResult it.fields sd
    let offset := (sd.packer.byteCount + 7) / 8 * 8
    let budget :=
      if offset < itemCapacity it.copy then min it.fields.bytesHigh (itemCapacity it.copy - offset) else 0
    (∀ f, s.units[u] = .rear it f sd → ended = .next (drawn.handBack u it f coded)) ∧
    (s.units[u] = .front it sd → itemRearPresent it.copy = false →
      ended = .next (drawn.handBack u it coded absentResult)) ∧
    (s.units[u] = .front it sd → itemRearPresent it.copy = true → budget = 0 →
      ended = .next (drawn.handBack u it coded (uncodedResult .oversize offset 0 0 0))) ∧
    (s.units[u] = .front it sd → itemRearPresent it.copy = true → 0 < budget →
      ∃ sd' : SideContext,
        ended = .next { s with units := s.units.set u (.rear it coded sd'), draws := s.draws + 1 } ∧
        sd'.Fresh (rearDescriptor it.copy) it.fields offset budget 0)

/-- The end of a source-row read of an oversize attempt, an error included: its result is discarded, and nothing else
happens while another request of the attempt is in flight. The last request to end, an output write or a source-row
read: below fallback_limit the side restarts one step lower with everything fresh, at the same offset and budget; at
the limit it ends OVERSIZE with the attempt's step and geometry, and an OVERSIZE front is followed by the rear at
offset 0. That a first read is issued in the same step is the model's choice (notes/assumptions/4.md). -/
def Obligations.OversizeAttemptFallsBackOrEnds : Prop :=
  ∀ (s : State) (u : UnitNo) (it : ItemContext) (d : SideDescriptor) (sd : SideContext),
    s.units[u].attempt = some (it, d, sd) → sd.phase = .oversize → sd.packer.waiting = [] →
    let readEnds (r : SourceRead) (c : Instr) : Prop :=
      c = .sourceReadDone u r.row r.off ⟨s.epoch, .error⟩ ∨
        ∃ bytes, bytes.length = r.len ∧ c = .sourceReadDone u r.row r.off ⟨s.epoch, .ok bytes⟩
    (∀ r ∈ sd.reads, r.bytes = none → (∀ x ∈ sd.reads, x.row = r.row → x.off = r.off → x = r) →
      let left := sd.reads.filter fun x => x ≠ r
      ∀ c, readEnds r c → (∃ x ∈ left, x.bytes = none) ∨ sd.writes ≠ [] →
        exec c s = .next
          { s with units := s.units.set u (s.units[u].withSide { sd with reads := left }), draws := s.draws + 1 }) ∧
    ∀ c,
      ((∃ w, sd.reads = [] ∧ sd.writes = [w] ∧ c = .outputWriteDone u w.index ⟨s.epoch, .ok⟩) ∨
        ∃ r, sd.reads = [r] ∧ r.bytes = none ∧ sd.writes = [] ∧ readEnds r c) →
      s.LadderOutcome u (exec c s)

/-- The first error of a side, of a read while its attempt fetches or of a write in any phase but a failed one: the
request leaves its list, reads that have returned are dropped, the bytes that wait and the partial byte are
discarded, the phase becomes failed with READ_ERROR or WRITE_ERROR, and nothing is issued. The end of any request of
a failed attempt, an error included: the request leaves its list and the first status stays. Once no request of the
side is in flight it ends with that status, and the item is handed back, a present rear being NOT_RUN after an error
in the front. -/
def Obligations.FirstErrorEndsTheSide : Prop :=
  ∀ (s : State) (u : UnitNo) (it : ItemContext) (d : SideDescriptor) (sd : SideContext),
    s.units[u].attempt = some (it, d, sd) →
    let drawn := { s with draws := s.draws + 1 }
    let side (status : SideStatus) := uncodedResult status sd.offset sd.step sd.wo sd.ho
    let leaves (c : Instr) (status : SideStatus) (sd' : SideContext) : Prop :=
      ((∃ x ∈ sd'.reads, x.bytes = none) ∨ sd'.writes ≠ [] →
        exec c s = .next { drawn with units := s.units.set u (s.units[u].withSide sd') }) ∧
      ((∀ x ∈ sd'.reads, x.bytes ≠ none) → sd'.writes = [] →
        (s.units[u] = .front it sd → exec c s = .next
          (drawn.handBack u it (side status) (if itemRearPresent it.copy then notRunResult else absentResult))) ∧
        ∀ front, s.units[u] = .rear it front sd → exec c s = .next (drawn.handBack u it front (side status)))
    let fails (c : Instr) (status : SideStatus) (reads : List SourceRead) (writes : List OutputWrite) : Prop :=
      leaves c status { sd with
        reads := reads.filter (fun x => x.bytes = none), writes := writes, phase := .failed status
        packer := { sd.packer with partialBits := [], waiting := [] } }
    (∀ r ∈ sd.reads, r.bytes = none → (∀ x ∈ sd.reads, x.row = r.row → x.off = r.off → x = r) →
      let left := sd.reads.filter fun x => x ≠ r
      (sd.phase = .fetching →
        fails (.sourceReadDone u r.row r.off ⟨s.epoch, .error⟩) .readError left sd.writes) ∧
      ∀ st, sd.phase = .failed st → st = .readError ∨ st = .writeError →
        leaves (.sourceReadDone u r.row r.off ⟨s.epoch, .error⟩) st { sd with reads := left } ∧
        ∀ bytes, bytes.length = r.len →
          leaves (.sourceReadDone u r.row r.off ⟨s.epoch, .ok bytes⟩) st { sd with reads := left }) ∧
    ∀ w ∈ sd.writes,
      let left := sd.writes.filter fun x => x.index ≠ w.index
      ((∀ st, sd.phase ≠ .failed st) →
        fails (.outputWriteDone u w.index ⟨s.epoch, .error⟩) .writeError sd.reads left) ∧
      ∀ st, sd.phase = .failed st → st = .readError ∨ st = .writeError →
        leaves (.outputWriteDone u w.index ⟨s.epoch, .ok⟩) st { sd with writes := left } ∧
        leaves (.outputWriteDone u w.index ⟨s.epoch, .error⟩) st { sd with writes := left }

/-! ### The arithmetic of a side (R49 to R51, R67 to R76, R81 to R88, R109 to R115) -/

/-- The output geometry of R70 and R71, with its bounds. -/
def Obligations.OutputGeometry : Prop :=
  ∀ (d : SideDescriptor) (p : Profile) (s : Nat), p.Valid → s ≤ 2 → 64 ≤ d.ws → d.ws ≤ 4096 → 64 ≤ d.hs →
    d.hs ≤ 4096 → 100 ≤ d.dsrc → d.dsrc ≤ 1200 →
    let dout (s : Nat) := p.outDpi * (4 - s) / 4
    let size (source : Nat) := max (min (source * dout s / d.dsrc) (min source 2048)) ((source + 3) / 4)
    d.outputWidth p s = size d.ws ∧ d.outputHeight p s = size d.hs ∧
    25 ≤ dout s ∧ dout s ≤ 600 ∧ dout (s + 1) ≤ dout s ∧
    (d.ws + 3) / 4 ≤ d.outputWidth p s ∧ d.outputWidth p s ≤ min d.ws 2048 ∧ 16 ≤ d.outputWidth p s ∧
    (d.hs + 3) / 4 ≤ d.outputHeight p s ∧ d.outputHeight p s ≤ min d.hs 2048 ∧ 16 ≤ d.outputHeight p s ∧
    d.outputWidth p (s + 1) ≤ d.outputWidth p s ∧ d.outputHeight p (s + 1) ≤ d.outputHeight p s

/-- The groups tile the source: every column (row) lies in the run of its output column (row), and every run
holds 1 to 4 of them, floor or ceil of the ratio. -/
def Obligations.GroupsTileTheSource : Prop :=
  ∀ source output : Nat, 0 < output → output ≤ source → source ≤ 4 * output →
    groupStart source output 0 = 0 ∧ groupStart source output output = source ∧
    (∀ x, x < source → groupOf source output x < output ∧
      groupStart source output (groupOf source output x) ≤ x ∧
      x < groupStart source output (groupOf source output x + 1)) ∧
    ∀ j, j < output →
      let run := groupStart source output (j + 1) - groupStart source output j
      1 ≤ run ∧ run ≤ 4 ∧ (run = source / output ∨ run = (source + output - 1) / output)

/-- Pixels, averages and binarisation: the pixel of each depth and polarity lies in 0–255; the average is the
rounded mean; the threshold lies within the clamps; a pixel is black below it; a background-like pixel moves
the tracker toward itself by the truncated step, any other leaves it; a black pixel is counted; the columns of a
row, with their trackers and ink counters, are independent; a source row has a grey value for each of its pixels;
and each accumulator takes the sum and the number of the grey values of its own columns. -/
def Obligations.GreyPixelsToColours : Prop :=
  (∀ (row : List Byte) (x : Nat),
    sourcePixel 8 row x = (row.getD x 0).toNat ∧
    sourcePixel 4 row (2 * x) = (row.getD x 0).toNat / 16 * 17 ∧
    sourcePixel 4 row (2 * x + 1) = (row.getD x 0).toNat % 16 * 17 ∧
    ∀ depth inverted, sourcePixel depth row x ≤ 255 ∧
      greyValue inverted (sourcePixel depth row x) =
        if inverted then 255 - sourcePixel depth row x else sourcePixel depth row x) ∧
  (∀ a : Accumulator, 0 < a.count → a.sum ≤ 255 * a.count →
    a.average * a.count ≤ a.sum + a.count / 2 ∧ a.sum + a.count / 2 < (a.average + 1) * a.count ∧
    a.average ≤ 255) ∧
  (∀ (p : Profile) (b c a : Nat), p.Valid → b ≤ 255 → a ≤ 255 →
    let t := threshold p b
    let step := (b - a + (a - b)) / 2 ^ p.kTrack
    let raw := b * p.contrast / 64
    b / 2 ≤ raw ∧ raw ≤ b ∧ raw ≤ 251 ∧
    (raw < p.tFloor → t = p.tFloor) ∧ (p.tCeil < raw → t = p.tCeil) ∧
    (p.tFloor ≤ raw → raw ≤ p.tCeil → t = raw) ∧
    (isBlack p b a = true ↔ a < t) ∧
    (b ≤ a + p.inkGap → nextTracker p b a = (if b ≤ a then b + step else b - step)) ∧
    (a + p.inkGap < b → nextTracker p b a = b) ∧
    min a b ≤ nextTracker p b a ∧ nextTracker p b a ≤ max a b ∧
    nextInkCounter p b c a = (if a < t then c + 1 else c)) ∧
  (∀ (p : Profile) (bs cs as : List Nat), bs.length = as.length → cs.length = as.length →
    let row := binariseRow p bs cs as
    row.colours.length = as.length ∧ row.trackers.length = as.length ∧ row.inkCounters.length = as.length ∧
    ∀ x b c a : Nat, bs[x]? = some b → cs[x]? = some c → as[x]? = some a →
      row.colours[x]? = some (isBlack p b a) ∧ row.trackers[x]? = some (nextTracker p b a) ∧
      row.inkCounters[x]? = some (nextInkCounter p b c a)) ∧
  (∀ (d : SideDescriptor) (row : List Byte),
    (d.greyRow row).length = d.ws ∧
    ∀ x, x < d.ws → (d.greyRow row)[x]? = some (greyValue d.inverted (sourcePixel d.depth row x))) ∧
  ∀ (ws wo : Nat) (greys : List Nat) (sums : List Accumulator), greys.length = ws →
    (accumulateFrom ws wo 0 greys sums).length = sums.length ∧
    ∀ (j : Nat) (a : Accumulator), sums[j]? = some a →
      let columns := (List.range ws).filter fun x => x * wo / ws = j
      (accumulateFrom ws wo 0 greys sums)[j]? =
        some { sum := a.sum + (columns.map fun x => greys.getD x 0).sum, count := a.count + columns.length }

/-- The measures and flags of a CODED side with their ranges, and those of any other side. -/
def Obligations.MeasuresAndFlags : Prop :=
  (∀ (p : Profile) (sd : SideContext), p.Valid → sd.Valid p → 0 < sd.wo → 0 < sd.ho →
    (∀ c ∈ sd.inkCounters, c ≤ sd.ho) →
    let r := codedResult p sd
    r.status = .coded ∧ r.offset = sd.offset ∧ r.step = sd.step ∧ r.wo = sd.wo ∧ r.ho = sd.ho ∧
    r.byteCount = sd.packer.byteCount ∧ r.byteCount ≤ sd.budget ∧
    r.ink = 1000 * sd.inkCounters.sum / (sd.wo * sd.ho) ∧ r.ink ≤ 1000 ∧
    r.background = sd.trackers.sum / sd.wo ∧ r.background ≤ 255 ∧
    r.streaks = (sd.inkCounters.filter fun c => 15 * sd.ho ≤ 16 * c).length ∧ r.streaks ≤ sd.wo ∧
    (r.flags.inkLow = true ↔ r.ink < p.inkLow) ∧ (r.flags.inkHigh = true ↔ p.inkHigh < r.ink) ∧
    (r.flags.bgLow = true ↔ r.background < p.bgLow) ∧ (r.flags.bgHigh = true ↔ p.bgHigh < r.background) ∧
    (r.flags.small = true ↔ r.byteCount < p.bytesLow) ∧ (r.flags.streak = true ↔ p.streakLimit < r.streaks) ∧
    r.flags.oversize = false ∧ (r.flags.fallback = true ↔ 0 < sd.step) ∧
    ¬ (r.flags.inkLow = true ∧ r.flags.inkHigh = true) ∧ ¬ (r.flags.bgLow = true ∧ r.flags.bgHigh = true)) ∧
  ∀ (st : SideStatus) (offset step wo ho : Nat),
    let r := uncodedResult st offset step wo ho
    r.byteCount = 0 ∧ r.ink = 0 ∧ r.background = 0 ∧ r.streaks = 0 ∧ r.flags.anyQuality = false ∧
    (r.flags.oversize = true ↔ st = .oversize) ∧ (r.flags.fallback = true ↔ 0 < step)

/-! ### The stream (R96 to R105, section 6.6) -/

/-- The code of a value: L − 1 − k zero bits and the L bits of m, most significant first; it is 2L − 1 − k bits
long, at most 23 for the values of a row, and reads back as the value, whatever follows it. -/
def Obligations.ValueCodeReadsBack : Prop :=
  ∀ k v : Nat,
    let m := v + 2 ^ k
    let len := Nat.log2 m + 1
    2 ^ (len - 1) ≤ m ∧ m < 2 ^ len ∧ k + 1 ≤ len ∧
    (∃ bits, valueCode k v = List.replicate (len - 1 - k) false ++ bits ∧ bits.length = len ∧
      ∀ i, i < len → bits[i]? = some (m.testBit (len - 1 - i))) ∧
    (valueCode k v).length = 2 * len - 1 - k ∧
    (k ≤ 3 → v ≤ 2047 → (valueCode k v).length ≤ 23) ∧
    ∀ rest, decodeValue k (valueCode k v ++ rest) = some (v, rest)

/-- The code of a row: an all-white row is BLANK, also after an all-white row; any other row equal to the one before
it is REPEAT; and the rest are RUNS, the values of the run list of the row, whose runs alternate in colour from a
white one, none but the first being 0. The bits of a stream of any rows of one width decode into exactly those rows,
and leave what follows. -/
def Obligations.StreamDecodesIntoItsRows : Prop :=
  (∀ (k : Nat) (previous : Option (List Bool)) (row : List Bool),
    ((∀ black ∈ row, black = false) → rowCode k previous row = [false]) ∧
    (true ∈ row → previous = some row → rowCode k previous row = [true, false]) ∧
    (true ∈ row → previous ≠ some row → ∃ first rest,
      rowCode k previous row = [true, true] ++ valueCode k first ++ rest.flatMap (fun r => valueCode k (r - 1)) ∧
      rest ≠ [] ∧ (∀ r ∈ rest, 1 ≤ r) ∧ first + rest.sum = row.length ∧ expandRuns false (first :: rest) = row)) ∧
  ∀ (k wo : Nat) (rows : List (List Bool)) (pad : List Bool), (∀ row ∈ rows, row.length = wo) →
    decodeRows k wo rows.length none (streamBits k none rows ++ pad) = some (rows, pad)

/-- The packer: bits that fit the budget become ceil(bits / 8) bytes, first bit highest, with 0 to 7 zero bits of
padding; more bits are oversize, and exactly the budget's bytes have passed. -/
def Obligations.PackerFillsBytesWithinTheBudget : Prop :=
  ∀ (budget : Nat) (bits : List Bool),
    let k := (Packer.fresh.append budget bits).finish budget
    (bits.length ≤ 8 * budget →
      k.overBudget = false ∧ k.byteCount = (bits.length + 7) / 8 ∧ k.partialBits = [] ∧
      ∃ pad, pad < 8 ∧ bytesToBits k.waiting = bits ++ List.replicate pad false) ∧
    (8 * budget < bits.length →
      k.overBudget = true ∧ k.byteCount = budget ∧ bytesToBits k.waiting = bits.take (8 * budget))

/-! ### The records (R3, R181, R182) -/

/-- The records field by field at their offsets, little-endian, with their encodings and their zero bytes: the
device half; the result sections of a REFUSED docket and of a DONE ITEM, OPEN, CLOSE and STAGE; and the fields the
engine takes from a docket copy. -/
def Obligations.RecordsHoldTheirFields : Prop :=
  (∀ l : Lane,
    let r := l.deviceHalf
    r.length = 64 ∧ field r 0x00 8 = l.cursor.toNat ∧
    field r 0x08 1 = (match l.condition with | .running => 1 | .stopped => 2 | .faulted => 3) ∧
    field r 0x09 1 =
      (match l.lastFault with
        | .none => 0 | .linkRead => 1 | .badLink => 2 | .badState => 3 | .claimFailed => 4 | .resultWrite => 5) ∧
    field r 0x0A 1 = l.bundle.isOpen.toNat ∧ field r 0x0B 1 = 0 ∧ field r 0x0C 4 = l.bundle.id.toNat ∧
    field r 0x10 4 = l.finished.toNat ∧ field r 0x14 4 = l.skipped.toNat ∧ field r 0x18 4 = l.faults.toNat ∧
    field r 0x1C 4 = l.lastSequence.toNat ∧ field r 0x20 8 = l.lastFaultDocket.toNat ∧ field r 0x28 24 = 0) ∧
  (∀ (sequence : Word) (change : BundleChange),
    let section_ (code : RefusalCode) (result : List Byte) : List Byte :=
      resultSection sequence { refusal := code, result := result, change := change }
    let head (r : List Byte) (code : Nat) : Prop :=
      r.length = 96 ∧ field r 0 4 = sequence.toNat ∧ field r 4 1 = code
    (∀ code : RefusalCode,
      let r := section_ code refusedResultBytes
      head r (match code with
        | .none => 0 | .kind => 1 | .profile => 2 | .output => 3 | .geometry => 4 | .resolution => 5 | .depth => 6
        | .stride => 7 | .trigger => 8 | .slotsFull => 9 | .bundleState => 10 | .bundleId => 11) ∧
      field r 5 91 = 0) ∧
    (∀ (outcome : ItemOutcome) (u : UnitNo) (p : Fin 16) (generation : BitVec 16) (front rear : SideResult),
      let r := section_ .none (itemResultBytes outcome u p generation front rear)
      let holds (base : Nat) (x : SideResult) : Prop :=
        let flags := field r (base + 2) 2
        field r base 1 =
          (match x.status with
            | .coded => 1 | .oversize => 2 | .readError => 3 | .writeError => 4 | .notRun => 5 | .absent => 6) ∧
        field r (base + 1) 1 = x.step ∧ flags < 256 ∧ flags.testBit 0 = x.flags.inkLow ∧
        flags.testBit 1 = x.flags.inkHigh ∧ flags.testBit 2 = x.flags.bgLow ∧ flags.testBit 3 = x.flags.bgHigh ∧
        flags.testBit 4 = x.flags.small ∧ flags.testBit 5 = x.flags.streak ∧
        flags.testBit 6 = x.flags.oversize ∧ flags.testBit 7 = x.flags.fallback ∧
        field r (base + 4) 4 = x.offset ∧ field r (base + 8) 2 = x.wo ∧ field r (base + 10) 2 = x.ho ∧
        field r (base + 12) 4 = x.byteCount ∧ field r (base + 16) 2 = x.ink ∧
        field r (base + 18) 1 = x.background ∧ field r (base + 19) 1 = 0 ∧
        field r (base + 20) 2 = x.streaks ∧ field r (base + 22) 10 = 0
      let fits (x : SideResult) : Prop :=
        x.step ≤ 2 ∧ x.offset < 2 ^ 32 ∧ x.wo ≤ 2048 ∧ x.ho ≤ 2048 ∧ x.byteCount ≤ 1048576 ∧ x.ink ≤ 1000 ∧
        x.background ≤ 255 ∧ x.streaks ≤ 2048
      head r 0 ∧
      field r 5 1 =
        (match outcome with | .ok => 1 | .flagged => 2 | .oversize => 3 | .readError => 4 | .writeError => 5) ∧
      field r 6 1 = u.val ∧ field r 7 1 = p.val ∧ field r 8 2 = generation.toNat ∧ field r 10 6 = 0 ∧
      (fits front → holds 16 front) ∧ (fits rear → holds 48 rear) ∧ field r 80 16 = 0) ∧
    (∀ applied, applied ≤ 4 →
      let r := section_ .none (openResultBytes applied)
      head r 0 ∧ field r 5 1 = applied ∧ field r 6 90 = 0) ∧
    (∀ b : Bundle,
      let r := section_ .none (closeResultBytes b)
      head r 0 ∧ field r 5 3 = 0 ∧ field r 8 4 = b.id.toNat ∧ field r 12 4 = b.itemsDone.toNat ∧
      field r 16 4 = b.itemsRefused.toNat ∧ field r 20 4 = b.sidesCoded.toNat ∧ field r 24 4 = b.bytes.toNat ∧
      field r 28 4 = b.flagged.toNat ∧ field r 32 4 = b.oversize.toNat ∧ field r 36 4 = b.errors.toNat ∧
      field r 40 56 = 0) ∧
    ∀ (generation : BitVec 16) (count : Nat), count ≤ 4 →
      let r := section_ .none (stageResultBytes generation count)
      head r 0 ∧ field r 5 3 = 0 ∧ field r 8 2 = generation.toNat ∧ field r 10 1 = count ∧ field r 11 85 = 0) ∧
  ∀ copy : List Byte,
    let byte (i : Nat) : Nat := (copy.getD i 0).toNat
    let half (i : Nat) : Nat := byte i + 256 * byte (i + 1)
    let word (i : Nat) : Nat := half i + 65536 * half (i + 2)
    let quad (i : Nat) : Nat := word i + 4294967296 * word (i + 4)
    let describes (d : SideDescriptor) (base : Nat) : Prop :=
      d.source.toNat = quad base ∧ d.stride = word (base + 0x08) ∧ d.ws = half (base + 0x0C) ∧
      d.hs = half (base + 0x0E) ∧ d.dsrc = half (base + 0x10) ∧ d.depth = byte (base + 0x12) ∧
      (d.inverted = true ↔ byte (base + 0x13) ≠ 0)
    docketKind copy =
      (match byte 0x04 with | 1 => .item | 2 => .openBundle | 3 => .close | 4 => .stage | _ => .unknown) ∧
    (docketSequence copy).toNat = word 0x08 ∧ docketProfile copy = byte 0x18 ∧
    (docketBundleId copy).toNat = word 0x18 ∧ (itemRearPresent copy = true ↔ byte 0x19 ≠ 0) ∧
    (itemOutputAddress copy).toNat = quad 0x20 ∧ itemCapacity copy = word 0x28 ∧
    describes (frontDescriptor copy) 0x30 ∧ describes (rearDescriptor copy) 0x50 ∧
    stageTrigger copy = (match byte 0x19 with | 1 => .now | 2 => .atOpen | 3 => .cancel | _ => .unknown) ∧
    stageTriggerLane copy = byte 0x1A ∧ (stageUpdate copy).mask.toNat = half 0x1C ∧
    ∀ i : Fin 16, (stageUpdate copy).values[i].toNat = word (0x20 + 4 * i.val)

/-! ### Rules of the whole block -/

/-- Which commands may change what, over all of them: HALTED is left only by a reset and entered only by a
device-half write that fails; a lane's bundle, finished count and cursor change only by its own commands and the
resets; profiles change only at NOW, at OPEN and at a cold reset; the dropped flag is cleared only by a STATUS
write with bit 8 and by the resets. -/
def Obligations.OnlyTheseCommandsChange : Prop :=
  ∀ (c : Instr) (s t : State), c.wellFormed = true → exec c s = .next t →
    let isReset := (∃ w, c = .engineReset w) ∨ ∃ r, c = .coldReset r
    (s.engine = .halted → t.engine ≠ .halted → isReset) ∧
    (s.engine ≠ .halted → t.engine = .halted → ∃ n : LaneNo,
      c = .startRecordWriteDone n ⟨s.epoch, .error⟩ ∨ c = .skipWriteDone n ⟨s.epoch, .error⟩ ∨
      c = .reportRecordWriteDone n ⟨s.epoch, .error⟩ ∨
      c = .stopRecordWriteDone n ⟨s.epoch, .error⟩ ∨ c = .faultRecordWriteDone n ⟨s.epoch, .error⟩) ∧
    (∀ n : LaneNo,
      t.lanes[n].bundle ≠ s.lanes[n].bundle ∨ t.lanes[n].finished ≠ s.lanes[n].finished ∨
        t.lanes[n].lastSequence ≠ s.lanes[n].lastSequence →
      c = .stateWordWriteDone n ⟨s.epoch, .ok⟩ ∨ isReset) ∧
    (∀ n : LaneNo, t.lanes[n].cursor ≠ s.lanes[n].cursor →
      c = .stateWordWriteDone n ⟨s.epoch, .ok⟩ ∨ c = .stateWordReadDone n ⟨s.epoch, .ok 5⟩ ∨
      c = .claimDone n ⟨s.epoch, .ok 5⟩ ∨
      (∃ b : Byte, b.toNat = n.val ∧ c = .start b ∧ s.lanes[n].state = .idle) ∨ isReset) ∧
    (t.store.profiles ≠ s.store.profiles →
      (∃ n, c = .stageNow n) ∨ (∃ n, c = .openBundle n) ∨ ∃ r, c = .coldReset r) ∧
    (s.dropped = true → t.dropped = false → (∃ v : Word, v.getLsbD 8 = true ∧ c = .statusWrite v) ∨ isReset)

/-! ### Invariants that every step keeps -/

/-- The reset state satisfies every invariant. -/
def Obligations.ResetSatisfiesTheInvariants : Prop :=
  State.reset.store.Valid ∧ (∀ u : UnitNo, State.reset.units[u].Valid) ∧ State.reset.notice.Valid ∧
  State.reset.AreaAligned ∧ (∀ n : LaneNo, State.reset.lanes[n].AddressesAligned) ∧ State.reset.ControlValid ∧
  ∀ u : UnitNo, State.reset.units[u].RequestsValid

/-- Every step keeps every profile in its ranges with its pairs in order and the stage list at 4 entries at most,
and with them every snapshot and every attempt in progress valid. -/
def Obligations.EveryStepKeepsStoreAndUnitsValid : Prop :=
  ∀ s t : State, s.store.Valid → (∀ u : UnitNo, s.units[u].Valid) → step s = .next t →
    t.store.Valid ∧ ∀ u : UnitNo, t.units[u].Valid

/-- Every step keeps the in-service set empty in AUTO_END mode and a message due only behind one in flight; AREA
4096-aligned, and every lane's cursor and docket 64-byte-aligned; and every unit's requests valid: each read in
flight asks for used bytes of its source row, at the address the row and byte give, each output write is at the
output address, the side's offset and its index, both in increasing order, and no byte lies past the byte count, the
budget or the capacity. -/
def Obligations.EveryStepKeepsNoticesValidAndAddressesAligned : Prop :=
  (∀ s t : State, s.notice.Valid → step s = .next t → t.notice.Valid) ∧
  (∀ s t : State, s.AreaAligned → (∀ n : LaneNo, s.lanes[n].AddressesAligned) → step s = .next t →
    t.AreaAligned ∧ ∀ n : LaneNo, t.lanes[n].AddressesAligned) ∧
  ∀ s t : State, (∀ u : UnitNo, s.units[u].RequestsValid) → step s = .next t →
    ∀ u : UnitNo, t.units[u].RequestsValid

/-- Every step keeps the lanes' shapes, flags and timers, the ownership of items, and what an engine that is not
RUNNING has in flight. That no unit rests in COMPOSE or before its admission checks, and that a START held back by
a device-half write stands in CHECKING, are inferences (notes/assumptions/11.md, 16.md). -/
def Obligations.EveryStepKeepsTheControlValid : Prop :=
  ∀ s t : State, s.ControlValid → step s = .next t → t.ControlValid

end Statements
end

