-- ==== Sys2Proof/Laws/State.lean ====
section
/-! SUPPORT. The projections of every update of State: one lemma for each field and each update, and what a
lane or a unit reads as after another has been put in. -/

namespace Sys2Proof.Machine

variable (s : State)

/-! ### `State.setLane` -/

@[simp] theorem State.setLane_pending (n : LaneNo) (l : Lane) : (s.setLane n l).pending = s.pending := rfl
@[simp] theorem State.setLane_engine (n : LaneNo) (l : Lane) : (s.setLane n l).engine = s.engine := rfl
@[simp] theorem State.setLane_haltCause (n : LaneNo) (l : Lane) :
    (s.setLane n l).haltCause = s.haltCause := rfl
@[simp] theorem State.setLane_dropped (n : LaneNo) (l : Lane) : (s.setLane n l).dropped = s.dropped := rfl
@[simp] theorem State.setLane_area (n : LaneNo) (l : Lane) : (s.setLane n l).area = s.area := rfl
@[simp] theorem State.setLane_lanes (n : LaneNo) (l : Lane) : (s.setLane n l).lanes = s.lanes.set n l := rfl
@[simp] theorem State.setLane_requests (n : LaneNo) (l : Lane) : (s.setLane n l).requests = s.requests := rfl
@[simp] theorem State.setLane_rotation (n : LaneNo) (l : Lane) : (s.setLane n l).rotation = s.rotation := rfl
@[simp] theorem State.setLane_dispatchMode (n : LaneNo) (l : Lane) :
    (s.setLane n l).dispatchMode = s.dispatchMode := rfl
@[simp] theorem State.setLane_units (n : LaneNo) (l : Lane) : (s.setLane n l).units = s.units := rfl
@[simp] theorem State.setLane_store (n : LaneNo) (l : Lane) : (s.setLane n l).store = s.store := rfl
@[simp] theorem State.setLane_notice (n : LaneNo) (l : Lane) : (s.setLane n l).notice = s.notice := rfl
@[simp] theorem State.setLane_timeBase (n : LaneNo) (l : Lane) : (s.setLane n l).timeBase = s.timeBase := rfl
@[simp] theorem State.setLane_readData (n : LaneNo) (l : Lane) : (s.setLane n l).readData = s.readData := rfl
@[simp] theorem State.setLane_draws (n : LaneNo) (l : Lane) : (s.setLane n l).draws = s.draws := rfl
@[simp] theorem State.setLane_epoch (n : LaneNo) (l : Lane) : (s.setLane n l).epoch = s.epoch := rfl

/-! ### `State.setUnit` -/

@[simp] theorem State.setUnit_pending (u : UnitNo) (r : ReductionUnit) :
    (s.setUnit u r).pending = s.pending := rfl
@[simp] theorem State.setUnit_engine (u : UnitNo) (r : ReductionUnit) :
    (s.setUnit u r).engine = s.engine := rfl
@[simp] theorem State.setUnit_haltCause (u : UnitNo) (r : ReductionUnit) :
    (s.setUnit u r).haltCause = s.haltCause := rfl
@[simp] theorem State.setUnit_dropped (u : UnitNo) (r : ReductionUnit) :
    (s.setUnit u r).dropped = s.dropped := rfl
@[simp] theorem State.setUnit_area (u : UnitNo) (r : ReductionUnit) : (s.setUnit u r).area = s.area := rfl
@[simp] theorem State.setUnit_lanes (u : UnitNo) (r : ReductionUnit) : (s.setUnit u r).lanes = s.lanes := rfl
@[simp] theorem State.setUnit_requests (u : UnitNo) (r : ReductionUnit) :
    (s.setUnit u r).requests = s.requests := rfl
@[simp] theorem State.setUnit_rotation (u : UnitNo) (r : ReductionUnit) :
    (s.setUnit u r).rotation = s.rotation := rfl
@[simp] theorem State.setUnit_dispatchMode (u : UnitNo) (r : ReductionUnit) :
    (s.setUnit u r).dispatchMode = s.dispatchMode := rfl
@[simp] theorem State.setUnit_units (u : UnitNo) (r : ReductionUnit) :
    (s.setUnit u r).units = s.units.set u r := rfl
@[simp] theorem State.setUnit_store (u : UnitNo) (r : ReductionUnit) : (s.setUnit u r).store = s.store := rfl
@[simp] theorem State.setUnit_notice (u : UnitNo) (r : ReductionUnit) :
    (s.setUnit u r).notice = s.notice := rfl
@[simp] theorem State.setUnit_timeBase (u : UnitNo) (r : ReductionUnit) :
    (s.setUnit u r).timeBase = s.timeBase := rfl
@[simp] theorem State.setUnit_readData (u : UnitNo) (r : ReductionUnit) :
    (s.setUnit u r).readData = s.readData := rfl
@[simp] theorem State.setUnit_draws (u : UnitNo) (r : ReductionUnit) : (s.setUnit u r).draws = s.draws := rfl
@[simp] theorem State.setUnit_epoch (u : UnitNo) (r : ReductionUnit) : (s.setUnit u r).epoch = s.epoch := rfl

/-! ### `State.setNotice` -/

@[simp] theorem State.setNotice_pending (c : NoticeController) : (s.setNotice c).pending = s.pending := rfl
@[simp] theorem State.setNotice_engine (c : NoticeController) : (s.setNotice c).engine = s.engine := rfl
@[simp] theorem State.setNotice_haltCause (c : NoticeController) :
    (s.setNotice c).haltCause = s.haltCause := rfl
@[simp] theorem State.setNotice_dropped (c : NoticeController) : (s.setNotice c).dropped = s.dropped := rfl
@[simp] theorem State.setNotice_area (c : NoticeController) : (s.setNotice c).area = s.area := rfl
@[simp] theorem State.setNotice_lanes (c : NoticeController) : (s.setNotice c).lanes = s.lanes := rfl
@[simp] theorem State.setNotice_requests (c : NoticeController) : (s.setNotice c).requests = s.requests := rfl
@[simp] theorem State.setNotice_rotation (c : NoticeController) : (s.setNotice c).rotation = s.rotation := rfl
@[simp] theorem State.setNotice_dispatchMode (c : NoticeController) :
    (s.setNotice c).dispatchMode = s.dispatchMode := rfl
@[simp] theorem State.setNotice_units (c : NoticeController) : (s.setNotice c).units = s.units := rfl
@[simp] theorem State.setNotice_store (c : NoticeController) : (s.setNotice c).store = s.store := rfl
@[simp] theorem State.setNotice_notice (c : NoticeController) : (s.setNotice c).notice = c := rfl
@[simp] theorem State.setNotice_timeBase (c : NoticeController) : (s.setNotice c).timeBase = s.timeBase := rfl
@[simp] theorem State.setNotice_readData (c : NoticeController) : (s.setNotice c).readData = s.readData := rfl
@[simp] theorem State.setNotice_draws (c : NoticeController) : (s.setNotice c).draws = s.draws := rfl
@[simp] theorem State.setNotice_epoch (c : NoticeController) : (s.setNotice c).epoch = s.epoch := rfl

/-! ### `State.setStore` -/

@[simp] theorem State.setStore_pending (st : ProfileStore) : (s.setStore st).pending = s.pending := rfl
@[simp] theorem State.setStore_engine (st : ProfileStore) : (s.setStore st).engine = s.engine := rfl
@[simp] theorem State.setStore_haltCause (st : ProfileStore) : (s.setStore st).haltCause = s.haltCause := rfl
@[simp] theorem State.setStore_dropped (st : ProfileStore) : (s.setStore st).dropped = s.dropped := rfl
@[simp] theorem State.setStore_area (st : ProfileStore) : (s.setStore st).area = s.area := rfl
@[simp] theorem State.setStore_lanes (st : ProfileStore) : (s.setStore st).lanes = s.lanes := rfl
@[simp] theorem State.setStore_requests (st : ProfileStore) : (s.setStore st).requests = s.requests := rfl
@[simp] theorem State.setStore_rotation (st : ProfileStore) : (s.setStore st).rotation = s.rotation := rfl
@[simp] theorem State.setStore_dispatchMode (st : ProfileStore) :
    (s.setStore st).dispatchMode = s.dispatchMode := rfl
@[simp] theorem State.setStore_units (st : ProfileStore) : (s.setStore st).units = s.units := rfl
@[simp] theorem State.setStore_store (st : ProfileStore) : (s.setStore st).store = st := rfl
@[simp] theorem State.setStore_notice (st : ProfileStore) : (s.setStore st).notice = s.notice := rfl
@[simp] theorem State.setStore_timeBase (st : ProfileStore) : (s.setStore st).timeBase = s.timeBase := rfl
@[simp] theorem State.setStore_readData (st : ProfileStore) : (s.setStore st).readData = s.readData := rfl
@[simp] theorem State.setStore_draws (st : ProfileStore) : (s.setStore st).draws = s.draws := rfl
@[simp] theorem State.setStore_epoch (st : ProfileStore) : (s.setStore st).epoch = s.epoch := rfl

/-! ### `State.drop` -/

@[simp] theorem State.drop_pending : s.drop.pending = s.pending := rfl
@[simp] theorem State.drop_engine : s.drop.engine = s.engine := rfl
@[simp] theorem State.drop_haltCause : s.drop.haltCause = s.haltCause := rfl
@[simp] theorem State.drop_dropped : s.drop.dropped = true := rfl
@[simp] theorem State.drop_area : s.drop.area = s.area := rfl
@[simp] theorem State.drop_lanes : s.drop.lanes = s.lanes := rfl
@[simp] theorem State.drop_requests : s.drop.requests = s.requests := rfl
@[simp] theorem State.drop_rotation : s.drop.rotation = s.rotation := rfl
@[simp] theorem State.drop_dispatchMode : s.drop.dispatchMode = s.dispatchMode := rfl
@[simp] theorem State.drop_units : s.drop.units = s.units := rfl
@[simp] theorem State.drop_store : s.drop.store = s.store := rfl
@[simp] theorem State.drop_notice : s.drop.notice = s.notice := rfl
@[simp] theorem State.drop_timeBase : s.drop.timeBase = s.timeBase := rfl
@[simp] theorem State.drop_readData : s.drop.readData = s.readData := rfl
@[simp] theorem State.drop_draws : s.drop.draws = s.draws := rfl
@[simp] theorem State.drop_epoch : s.drop.epoch = s.epoch := rfl

/-! ### `State.raise` and `State.raiseLaneIf`: nothing but the notice controller -/

@[simp] theorem State.raise_eq (src : Source) : s.raise src = s.setNotice (s.notice.raise src) := by
  rw [State.raise]

@[simp] theorem State.raiseLaneIf_eq (n : LaneNo) (b : Bool) :
    s.raiseLaneIf n b = s.setNotice (if b then s.notice.raise (laneSource n) else s.notice) := by
  cases b <;> rfl

/-! ### `State.nextDraw` -/

@[simp] theorem State.nextDraw_pending : s.nextDraw.pending = s.pending := rfl
@[simp] theorem State.nextDraw_engine : s.nextDraw.engine = s.engine := rfl
@[simp] theorem State.nextDraw_haltCause : s.nextDraw.haltCause = s.haltCause := rfl
@[simp] theorem State.nextDraw_dropped : s.nextDraw.dropped = s.dropped := rfl
@[simp] theorem State.nextDraw_area : s.nextDraw.area = s.area := rfl
@[simp] theorem State.nextDraw_lanes : s.nextDraw.lanes = s.lanes := rfl
@[simp] theorem State.nextDraw_requests : s.nextDraw.requests = s.requests := rfl
@[simp] theorem State.nextDraw_rotation : s.nextDraw.rotation = s.rotation := rfl
@[simp] theorem State.nextDraw_dispatchMode : s.nextDraw.dispatchMode = s.dispatchMode := rfl
@[simp] theorem State.nextDraw_units : s.nextDraw.units = s.units := rfl
@[simp] theorem State.nextDraw_store : s.nextDraw.store = s.store := rfl
@[simp] theorem State.nextDraw_notice : s.nextDraw.notice = s.notice := rfl
@[simp] theorem State.nextDraw_timeBase : s.nextDraw.timeBase = s.timeBase := rfl
@[simp] theorem State.nextDraw_readData : s.nextDraw.readData = s.readData := rfl
@[simp] theorem State.nextDraw_draws : s.nextDraw.draws = s.draws + 1 := rfl
@[simp] theorem State.nextDraw_epoch : s.nextDraw.epoch = s.epoch := rfl

/-! ### `State.stillInFlight`: what an end finds of its own epoch, and of another -/

@[simp] theorem State.stillInFlight_epoch {α : Type} (r : Option α) : s.stillInFlight s.epoch r = r := by
  simp [State.stillInFlight]

theorem State.stillInFlight_other {α : Type} {epoch : Nat} (h : epoch ≠ s.epoch) (r : Option α) :
    s.stillInFlight epoch r = none := by
  simp [State.stillInFlight, h]

theorem State.stillInFlight_cases {α : Type} (epoch : Nat) (r : Option α) :
    (epoch = s.epoch ∧ s.stillInFlight epoch r = r) ∨ (epoch ≠ s.epoch ∧ s.stillInFlight epoch r = none) := by
  by_cases h : epoch = s.epoch <;> simp [State.stillInFlight, h]

/-! ### A halt and the resets begin a new epoch -/

@[simp] theorem State.halt_epoch : s.halt.epoch = s.epoch + 1 := rfl
@[simp] theorem State.engineReset_epoch : s.engineReset.epoch = s.epoch + 1 := rfl
@[simp] theorem State.coldReset_epoch : s.coldReset.epoch = s.epoch + 1 := rfl

/-! ### Reading a lane or a unit after an update -/

@[simp] theorem State.setLane_lane_self (n : LaneNo) (l : Lane) : (s.setLane n l).lanes[n] = l := by
  simp [State.setLane]

theorem State.setLane_lane_other {n m : LaneNo} (l : Lane) (h : n ≠ m) :
    (s.setLane n l).lanes[m] = s.lanes[m] := by
  have h' : n.val ≠ m.val := fun e => h (Fin.ext e)
  simp [State.setLane, h']

@[simp] theorem State.setUnit_unit_self (u : UnitNo) (r : ReductionUnit) : (s.setUnit u r).units[u] = r := by
  simp [State.setUnit]

theorem State.setUnit_unit_other {u v : UnitNo} (r : ReductionUnit) (h : u ≠ v) :
    (s.setUnit u r).units[v] = s.units[v] := by
  have h' : u.val ≠ v.val := fun e => h (Fin.ext e)
  simp [State.setUnit, h']

end Sys2Proof.Machine
end

