-- ==== Sys2Proof/Laws/Dispatch.lean ====
section
/-! SUPPORT. What the dispatcher can do, and what it keeps (R40 to R47). -/

namespace Sys2Proof.Machine

variable (s : State)

/-- A grant pairs an IDLE unit with the winning lane (R41, R44). -/
theorem State.grant_cases (s' : State) (h : s.grant = some s') :
    s.engine = .running ∧ ∃ u n, s.freeUnit = some u ∧ s.winner = some n ∧
      s' = { s with
        requests := s.requests.set n false
        rotation := if s.dispatchMode = .rotating then n else s.rotation
        units := s.units.set u (.admitting n s.lanes[n].copyBytes none)
        lanes := s.lanes.set n { s.lanes[n] with state := .active } } := by
  unfold State.grant at h
  split at h
  · rename_i hr
    split at h
    · rename_i u n hu hn
      exact ⟨hr, u, n, hu, hn, (Option.some.inj h).symm⟩
    · cases h
  · cases h

/-- A free unit is IDLE (R41). -/
theorem State.freeUnit_isIdle (u : UnitNo) (h : s.freeUnit = some u) : s.units[u].isIdle = true := by
  unfold State.freeUnit at h
  split at h
  · cases h; assumption
  · split at h
    · cases h; assumption
    · cases h

/-- The winner has a request in the set (R41). -/
theorem State.winner_requests (n : LaneNo) (h : s.winner = some n) : s.requests[n] = true :=
  List.find?_some (p := fun n => s.requests[n]) h

/-- An admission changes nothing, hands a refusal back to its lane, or asks for a snapshot (R46 to R48). -/
theorem State.admitUnit_cases (u : UnitNo) :
    s.admitUnit u = s ∨
    ∃ n copy, s.units[u] = .admitting n copy none ∧
      ((∃ code, admission copy = .refused code ∧
          s.admitUnit u = (s.setUnit u .idle).setLane n (s.lanes[n].refuse code .itemRefused)) ∨
        ∃ p, admission copy = .admitted p ∧ s.admitUnit u = s.setUnit u (.admitting n copy (some p))) := by
  unfold State.admitUnit
  split
  · rename_i n copy hu
    right
    refine ⟨n, copy, hu, ?_⟩
    split
    · rename_i code hc
      exact .inl ⟨code, hc, rfl⟩
    · rename_i p hp
      exact .inr ⟨p, hp, rfl⟩
  · exact .inl rfl

/-- What the dispatcher's work never touches: everything but the lanes, the units, the request set and the
rotation pointer. -/
structure State.SameBeside (s s' : State) : Prop where
  pending : s'.pending = s.pending
  engine : s'.engine = s.engine
  haltCause : s'.haltCause = s.haltCause
  dropped : s'.dropped = s.dropped
  area : s'.area = s.area
  dispatchMode : s'.dispatchMode = s.dispatchMode
  store : s'.store = s.store
  notice : s'.notice = s.notice
  timeBase : s'.timeBase = s.timeBase
  readData : s'.readData = s.readData
  draws : s'.draws = s.draws
  epoch : s'.epoch = s.epoch

theorem State.SameBeside.refl : s.SameBeside s := ⟨rfl, rfl, rfl, rfl, rfl, rfl, rfl, rfl, rfl, rfl, rfl, rfl⟩

variable {s} in
theorem State.SameBeside.trans {s' s'' : State} (h : s.SameBeside s') (h' : s'.SameBeside s'') :
    s.SameBeside s'' :=
  ⟨h'.1.trans h.1, h'.2.trans h.2, h'.3.trans h.3, h'.4.trans h.4, h'.5.trans h.5, h'.6.trans h.6,
    h'.7.trans h.7, h'.8.trans h.8, h'.9.trans h.9, h'.10.trans h.10, h'.11.trans h.11,
    h'.12.trans h.12⟩

theorem State.grant_beside (s' : State) (h : s.grant = some s') : s.SameBeside s' := by
  obtain ⟨-, u, n, -, -, rfl⟩ := s.grant_cases s' h
  exact ⟨rfl, rfl, rfl, rfl, rfl, rfl, rfl, rfl, rfl, rfl, rfl, rfl⟩

theorem State.grantAll_beside (fuel : Nat) : s.SameBeside (s.grantAll fuel) := by
  induction fuel generalizing s with
  | zero => exact State.SameBeside.refl s
  | succ fuel ih =>
    unfold State.grantAll
    split
    · rename_i s' h
      exact (s.grant_beside s' h).trans (ih s')
    · exact State.SameBeside.refl s

theorem State.admitUnit_beside (u : UnitNo) : s.SameBeside (s.admitUnit u) := by
  obtain h | ⟨n, copy, -, ⟨code, -, h⟩ | ⟨p, -, h⟩⟩ := s.admitUnit_cases u <;> rw [h] <;>
    exact ⟨rfl, rfl, rfl, rfl, rfl, rfl, rfl, rfl, rfl, rfl, rfl, rfl⟩

theorem State.dispatchRounds_beside (fuel : Nat) : s.SameBeside (s.dispatchRounds fuel) := by
  induction fuel generalizing s with
  | zero => exact State.SameBeside.refl s
  | succ fuel ih =>
    unfold State.dispatchRounds
    split
    · exact State.SameBeside.refl s
    · rename_i s' h
      exact ((((s.grant_beside s' h).trans (s'.grantAll_beside 1)).trans
        (State.admitUnit_beside _ 0)).trans (State.admitUnit_beside _ 1)).trans (ih _)

/-- The dispatcher touches the lanes, the units, the request set and the rotation pointer alone. -/
theorem State.dispatch_beside : s.SameBeside s.dispatch := s.dispatchRounds_beside 9

/-- The dispatcher does nothing unless the engine is RUNNING (R42). -/
theorem State.dispatch_of_not_running (h : s.engine ≠ .running) : s.dispatch = s := by
  simp [State.dispatch, State.dispatchRounds, State.grant, h]

/-- A hand-back touches the lanes, the units, the request set and the rotation pointer alone. -/
theorem State.handBack_beside (u : UnitNo) (it : ItemContext) (front rear : SideResult) :
    s.SameBeside (s.handBack u it front rear) := by
  have h : s.SameBeside ((s.setUnit u .idle).setLane it.lane
      (s.lanes[it.lane].reportDone
        (itemResultBytes (itemOutcome front rear) u it.profile it.snapshot.generation front rear)
        (.itemDone (itemOutcome front rear) (codedSides front rear)
          (front.byteCount + rear.byteCount)))) :=
    ⟨rfl, rfl, rfl, rfl, rfl, rfl, rfl, rfl, rfl, rfl, rfl, rfl⟩
  exact h.trans (State.dispatch_beside _)

/-- A unit put back hands its item back when it has reached COMPOSE (R54, R58). -/
theorem State.putUnit_cases (u : UnitNo) (r : ReductionUnit) :
    (∃ it front rear, r = .compose it front rear ∧
      s.putUnit u r = (s.setUnit u r).handBack u it front rear) ∨
    ((∀ it front rear, r ≠ .compose it front rear) ∧ s.putUnit u r = s.setUnit u r) := by
  cases r <;> simp [State.putUnit]

theorem State.putUnit_beside (u : UnitNo) (r : ReductionUnit) : s.SameBeside (s.putUnit u r) := by
  have h : s.SameBeside (s.setUnit u r) := ⟨rfl, rfl, rfl, rfl, rfl, rfl, rfl, rfl, rfl, rfl, rfl, rfl⟩
  obtain ⟨it, f, r', -, e⟩ | ⟨-, e⟩ := s.putUnit_cases u r <;> rw [e]
  · exact h.trans (State.handBack_beside _ u it f r')
  · exact h

/-- A request placed touches the lanes, the units, the request set and the rotation pointer alone (R40). -/
theorem State.requestUnit_beside (n : LaneNo) (l : Lane) : s.SameBeside (s.requestUnit n l) := by
  have h : s.SameBeside { s.setLane n { l with state := .holding, request := none } with
      requests := s.requests.set n true } := ⟨rfl, rfl, rfl, rfl, rfl, rfl, rfl, rfl, rfl, rfl, rfl, rfl⟩
  exact h.trans (State.dispatch_beside _)

end Sys2Proof.Machine
end

