-- ==== Sys2Proof/Laws/Lanes.lean ====
section
/-! SUPPORT. What the operations of a lane can do, and what each of them keeps. -/

namespace Sys2Proof.Machine

variable (area : Addr) (n : LaneNo) (l : Lane)

/-! ### Case lemmas -/

/-- A check boundary stops the lane or begins a check (R25). -/
theorem Lane.checkBoundary_cases :
    (l.stopPending = true ∧ l.checkBoundary area n = l.enterStopped area n) ∨
    (l.stopPending = false ∧ l.checkBoundary area n = l.beginCheck area n) := by
  cases h : l.stopPending <;> simp [Lane.checkBoundary, h]

/-- A check that finds nothing ends at a check boundary, in STOPPED or in WAITING (R8, R9, R26). -/
theorem Lane.findNothing_cases :
    (l.postLatch = true ∧ l.findNothing area n = l.checkBoundary area n) ∨
    (l.postLatch = false ∧ l.stopPending = true ∧ l.findNothing area n = l.enterStopped area n) ∨
    (l.postLatch = false ∧ l.stopPending = false ∧
      l.findNothing area n = { l with state := .waiting, request := none }) := by
  cases hp : l.postLatch <;> cases hs : l.stopPending <;> simp [Lane.findNothing, hp, hs]

/-- A START (R22). -/
theorem Lane.takeStart_cases :
    (l.state.isRest = true ∧ l.takeStart area n = l.startSequence area n) ∨
    (l.state = .waiting ∧ l.takeStart area n = l.checkBoundary area n) ∨
    ((l.state = .checking ∨ l.state = .holding ∨ l.state = .active) ∧
      l.takeStart area n = { l with postLatch := true }) := by
  cases h : l.state <;> simp [Lane.takeStart, h, LaneState.isRest]

/-- A STOP (R22). -/
theorem Lane.takeStop_cases :
    (l.state.isRest = true ∧ l.takeStop area n = l) ∨
    (l.state = .waiting ∧ l.takeStop area n = l.enterStopped area n) ∨
    ((l.state = .checking ∨ l.state = .holding ∨ l.state = .active) ∧
      l.takeStop area n = { l with stopPending := true }) := by
  cases h : l.state <;> simp [Lane.takeStop, h, LaneState.isRest]

/-- A POST (R22). -/
theorem Lane.takePost_cases :
    (l.state.isRest = true ∧ l.takePost area n = l) ∨
    (l.state = .waiting ∧ l.takePost area n = l.checkBoundary area n) ∨
    ((l.state = .checking ∨ l.state = .holding ∨ l.state = .active) ∧
      l.takePost area n = { l with postLatch := true }) := by
  cases h : l.state <;> simp [Lane.takePost, h, LaneState.isRest]

/-- The execution of a STAGE refuses the docket or asks the store (R128). -/
theorem Lane.executeStage_cases :
    l.executeStage = l.refuse .profile .none ∨ l.executeStage = l.refuse .trigger .none ∨
    ∃ r, l.executeStage = l.askStore r := by
  unfold Lane.executeStage
  split
  · split
    · exact .inr (.inr ⟨_, rfl⟩)
    · split
      · exact .inr (.inr ⟨_, rfl⟩)
      · exact .inr (.inl rfl)
    · exact .inr (.inr ⟨_, rfl⟩)
    · exact .inr (.inl rfl)
  · exact .inl rfl

/-! ### What the host sees of a lane: its counts, its cursor and its bundle -/

/-- The fields of a lane that only a skip, step 3 of a report and a reset may change (R32). -/
structure Lane.SameAccount (l l' : Lane) : Prop where
  cursor : l'.cursor = l.cursor
  finished : l'.finished = l.finished
  skipped : l'.skipped = l.skipped
  lastSequence : l'.lastSequence = l.lastSequence
  bundle : l'.bundle = l.bundle

theorem Lane.fault_account (code : FaultCode) (docket : Addr) :
    l.SameAccount (l.fault area n code docket) := ⟨rfl, rfl, rfl, rfl, rfl⟩

theorem Lane.enterStopped_account : l.SameAccount (l.enterStopped area n) := ⟨rfl, rfl, rfl, rfl, rfl⟩

theorem Lane.beginCheck_account : l.SameAccount (l.beginCheck area n) := ⟨rfl, rfl, rfl, rfl, rfl⟩

theorem Lane.beginReport_account (r : Report) : l.SameAccount (l.beginReport r) := ⟨rfl, rfl, rfl, rfl, rfl⟩

theorem Lane.freeze_account : l.SameAccount l.freeze := ⟨rfl, rfl, rfl, rfl, rfl⟩

theorem Lane.checkBoundary_account : l.SameAccount (l.checkBoundary area n) := by
  obtain ⟨-, h⟩ | ⟨-, h⟩ := l.checkBoundary_cases area n <;> rw [h]
  · exact l.enterStopped_account area n
  · exact l.beginCheck_account area n

theorem Lane.findNothing_account : l.SameAccount (l.findNothing area n) := by
  obtain ⟨-, h⟩ | ⟨-, -, h⟩ | ⟨-, -, h⟩ := l.findNothing_cases area n <;> rw [h]
  · exact l.checkBoundary_account area n
  · exact l.enterStopped_account area n
  · exact ⟨rfl, rfl, rfl, rfl, rfl⟩

theorem Lane.executeOpen_account : l.SameAccount l.executeOpen := by
  unfold Lane.executeOpen
  split <;> exact ⟨rfl, rfl, rfl, rfl, rfl⟩

theorem Lane.executeClose_account : l.SameAccount l.executeClose := by
  unfold Lane.executeClose
  split
  · split <;> exact ⟨rfl, rfl, rfl, rfl, rfl⟩
  · exact ⟨rfl, rfl, rfl, rfl, rfl⟩

theorem Lane.executeStage_account : l.SameAccount l.executeStage := by
  obtain h | h | ⟨r, h⟩ := l.executeStage_cases <;> rw [h] <;> exact ⟨rfl, rfl, rfl, rfl, rfl⟩

/-! ### The timer of a lane -/

@[simp] theorem Lane.fault_timer (code : FaultCode) (docket : Addr) :
    (l.fault area n code docket).timer = l.timer.rest := rfl

@[simp] theorem Lane.enterStopped_timer : (l.enterStopped area n).timer = l.timer.rest := rfl

@[simp] theorem Lane.beginCheck_timer : (l.beginCheck area n).timer = l.timer := rfl

@[simp] theorem Lane.beginReport_timer (r : Report) : (l.beginReport r).timer = l.timer := rfl

@[simp] theorem Lane.freeze_timer : l.freeze.timer = l.timer.freeze := rfl

end Sys2Proof.Machine
end

