-- ==== Sys2Proof/Laws/Notices.lean ====
section
/-! SUPPORT. What a change of the notice controller can do (R156 to R165). -/

namespace Sys2Proof.Machine

variable (c c' : NoticeController)

/-- A change taken whole makes a message due when the condition rises, and nothing more (R158, R164). -/
theorem NoticeController.become_cases :
    (c.condition = false ∧ c'.condition = true ∧ c.become c' = c'.makeDue) ∨
    (¬ (c.condition = false ∧ c'.condition = true) ∧ c.become c' = c') := by
  cases h : c.condition <;> cases h' : c'.condition <;> simp [NoticeController.become, h, h']

/-- A due message stands behind the one in flight, or is itself in flight (R165). -/
theorem NoticeController.makeDue_cases :
    (c.inFlight = true ∧ c.makeDue = { c with due := true }) ∨
    (c.inFlight = false ∧ c.makeDue = { c with inFlight := true }) := by
  cases h : c.inFlight <;> simp [NoticeController.makeDue, h]

/-- A rise leaves a message in flight (R164, R165). -/
theorem NoticeController.makeDue_inFlight : c.makeDue.inFlight = true := by
  obtain ⟨h, e⟩ | ⟨h, e⟩ := c.makeDue_cases <;> rw [e]
  exact h

/-- What a message does not touch. -/
structure NoticeController.SameSets (c c' : NoticeController) : Prop where
  pending : c'.pending = c.pending
  inService : c'.inService = c.inService
  masked : c'.masked = c.masked
  lowest : c'.lowest = c.lowest
  mode : c'.mode = c.mode
  messageEnable : c'.messageEnable = c.messageEnable
  sent : c'.sent = c.sent
  lastSent : c'.lastSent = c.lastSent

theorem NoticeController.makeDue_sets : c.SameSets c.makeDue := by
  obtain ⟨-, e⟩ | ⟨-, e⟩ := c.makeDue_cases <;> rw [e] <;> exact ⟨rfl, rfl, rfl, rfl, rfl, rfl, rfl, rfl⟩

/-- The sets, the pointer, the mode and the enable after a change are those of the change. -/
theorem NoticeController.become_sets : c'.SameSets (c.become c') := by
  obtain ⟨-, -, e⟩ | ⟨-, e⟩ := c.become_cases c' <;> rw [e]
  · exact c'.makeDue_sets
  · exact ⟨rfl, rfl, rfl, rfl, rfl, rfl, rfl, rfl⟩

@[simp] theorem NoticeController.become_pending : (c.become c').pending = c'.pending := (c.become_sets c').pending
@[simp] theorem NoticeController.become_inService : (c.become c').inService = c'.inService :=
  (c.become_sets c').inService
@[simp] theorem NoticeController.become_masked : (c.become c').masked = c'.masked := (c.become_sets c').masked
@[simp] theorem NoticeController.become_lowest : (c.become c').lowest = c'.lowest := (c.become_sets c').lowest
@[simp] theorem NoticeController.become_mode : (c.become c').mode = c'.mode := (c.become_sets c').mode
@[simp] theorem NoticeController.become_messageEnable : (c.become c').messageEnable = c'.messageEnable :=
  (c.become_sets c').messageEnable

/-- A change to itself is none. -/
@[simp] theorem NoticeController.become_self : c.become c = c := by
  cases h : c.condition <;> simp [NoticeController.become, h]

/-- The rank of a source is its distance above the lowest pointer, less one (R157). -/
theorem sourceRank_lt (lowest s : Source) : sourceRank lowest s < 9 := Nat.mod_lt _ (by decide)

/-- The source at a place of the ranking has that rank (R157). -/
theorem sourceRank_ranking : ∀ lowest i : Source, sourceRank lowest (lowest + 1 + i) = i.val := by decide

/-- Two sources of one rank are one source. -/
theorem sourceRank_inj : ∀ lowest s t : Source, sourceRank lowest s = sourceRank lowest t → s = t := by decide

end Sys2Proof.Machine
end

