-- ==== Sys2Proof/Laws/PerInstr.lean ====
section
/-! SUPPORT. The per-instruction family: every command is a row of spec/opcode_table.json. -/

namespace Sys2Proof.Laws

/-- The mnemonics of spec/opcode_table.json, in its order. -/
def tableMnemonics : List String :=
  ["START", "STOP", "POST", "RUN_SET", "RUN_CLEAR", "ENGINE_RESET", "DISPATCH_MODE", "NOTICE_MODE",
    "MESSAGE_ENABLE", "AREA_WRITE", "STATUS_WRITE", "TAKE", "END_ANY", "END_ANY_ROTATE", "END", "LOWEST",
    "MASK", "UNMASK", "UNMAPPED_WRITE", "COLD_RESET", "HOLDOFF_TICK", "HOLDOFF_UNDERFLOW", "MESSAGE",
    "HOST_HALF_READ_DONE", "START_RECORD_WRITE_DONE", "LINK_READ_DONE", "STATE_WORD_READ_DONE",
    "DOCKET_READ_DONE", "CLAIM_DONE", "SKIP_WRITE_DONE", "RESULT_SECTION_WRITE_DONE",
    "STATE_WORD_WRITE_DONE", "REPORT_RECORD_WRITE_DONE", "STOP_RECORD_WRITE_DONE",
    "FAULT_RECORD_WRITE_DONE", "STAGE_NOW", "STAGE_AT_OPEN", "STAGE_CANCEL", "OPEN", "SNAPSHOT",
    "SOURCE_READ_DONE", "OUTPUT_WRITE_DONE"]

/-- A command is a row of the table. -/
def TableRow.Statement (i : Instr) : Prop :=
  i.mnemonic ∈ tableMnemonics

theorem TableRow.start (lane : Byte) :
    TableRow.Statement (.start lane) := by
  show "START" ∈ tableMnemonics
  decide

theorem TableRow.stop (lane : Byte) :
    TableRow.Statement (.stop lane) := by
  show "STOP" ∈ tableMnemonics
  decide

theorem TableRow.post (lane : Byte) :
    TableRow.Statement (.post lane) := by
  show "POST" ∈ tableMnemonics
  decide

theorem TableRow.runSet (word : Word) :
    TableRow.Statement (.runSet word) := by
  show "RUN_SET" ∈ tableMnemonics
  decide

theorem TableRow.runClear (word : Word) :
    TableRow.Statement (.runClear word) := by
  show "RUN_CLEAR" ∈ tableMnemonics
  decide

theorem TableRow.engineReset (word : Word) :
    TableRow.Statement (.engineReset word) := by
  show "ENGINE_RESET" ∈ tableMnemonics
  decide

theorem TableRow.dispatchMode (mode : DispatchMode) :
    TableRow.Statement (.dispatchMode mode) := by
  show "DISPATCH_MODE" ∈ tableMnemonics
  decide

theorem TableRow.noticeMode (mode : NoticeMode) :
    TableRow.Statement (.noticeMode mode) := by
  show "NOTICE_MODE" ∈ tableMnemonics
  decide

theorem TableRow.messageEnable (on : Bool) :
    TableRow.Statement (.messageEnable on) := by
  show "MESSAGE_ENABLE" ∈ tableMnemonics
  decide

theorem TableRow.areaWrite (which : AreaWord) (value : Word) :
    TableRow.Statement (.areaWrite which value) := by
  show "AREA_WRITE" ∈ tableMnemonics
  decide

theorem TableRow.statusWrite (value : Word) :
    TableRow.Statement (.statusWrite value) := by
  show "STATUS_WRITE" ∈ tableMnemonics
  decide

theorem TableRow.take (offset : BitVec 12) (size : Nat) :
    TableRow.Statement (.take offset size) := by
  show "TAKE" ∈ tableMnemonics
  decide

theorem TableRow.endAny (source : Byte) :
    TableRow.Statement (.endAny source) := by
  show "END_ANY" ∈ tableMnemonics
  decide

theorem TableRow.endAnyRotate (source : Byte) :
    TableRow.Statement (.endAnyRotate source) := by
  show "END_ANY_ROTATE" ∈ tableMnemonics
  decide

theorem TableRow.endSource (source : Byte) :
    TableRow.Statement (.endSource source) := by
  show "END" ∈ tableMnemonics
  decide

theorem TableRow.lowest (source : Byte) :
    TableRow.Statement (.lowest source) := by
  show "LOWEST" ∈ tableMnemonics
  decide

theorem TableRow.mask (source : Byte) :
    TableRow.Statement (.mask source) := by
  show "MASK" ∈ tableMnemonics
  decide

theorem TableRow.unmask (source : Byte) :
    TableRow.Statement (.unmask source) := by
  show "UNMASK" ∈ tableMnemonics
  decide

theorem TableRow.unmappedWrite (offset : BitVec 12) (size : Nat) (value : Word) :
    TableRow.Statement (.unmappedWrite offset size value) := by
  show "UNMAPPED_WRITE" ∈ tableMnemonics
  decide

theorem TableRow.coldReset (cause : ColdResetCause) :
    TableRow.Statement (.coldReset cause) := by
  show "COLD_RESET" ∈ tableMnemonics
  decide

theorem TableRow.holdoffTick (lane : LaneNo) :
    TableRow.Statement (.holdoffTick lane) := by
  show "HOLDOFF_TICK" ∈ tableMnemonics
  decide

theorem TableRow.holdoffUnderflow (lane : LaneNo) :
    TableRow.Statement (.holdoffUnderflow lane) := by
  show "HOLDOFF_UNDERFLOW" ∈ tableMnemonics
  decide

theorem TableRow.message (outlet : MessageOutlet) :
    TableRow.Statement (.message outlet) := by
  show "MESSAGE" ∈ tableMnemonics
  decide

theorem TableRow.hostHalfReadDone (lane : LaneNo) (result : Ended (ReadEnd (List Byte))) :
    TableRow.Statement (.hostHalfReadDone lane result) := by
  show "HOST_HALF_READ_DONE" ∈ tableMnemonics
  decide

theorem TableRow.startRecordWriteDone (lane : LaneNo) (result : Ended WriteEnd) :
    TableRow.Statement (.startRecordWriteDone lane result) := by
  show "START_RECORD_WRITE_DONE" ∈ tableMnemonics
  decide

theorem TableRow.linkReadDone (lane : LaneNo) (result : Ended (ReadEnd Addr)) :
    TableRow.Statement (.linkReadDone lane result) := by
  show "LINK_READ_DONE" ∈ tableMnemonics
  decide

theorem TableRow.stateWordReadDone (lane : LaneNo) (result : Ended (ReadEnd Word)) :
    TableRow.Statement (.stateWordReadDone lane result) := by
  show "STATE_WORD_READ_DONE" ∈ tableMnemonics
  decide

theorem TableRow.docketReadDone (lane : LaneNo) (result : Ended (ReadEnd (List Byte))) :
    TableRow.Statement (.docketReadDone lane result) := by
  show "DOCKET_READ_DONE" ∈ tableMnemonics
  decide

theorem TableRow.claimDone (lane : LaneNo) (result : Ended (ReadEnd Word)) :
    TableRow.Statement (.claimDone lane result) := by
  show "CLAIM_DONE" ∈ tableMnemonics
  decide

theorem TableRow.skipWriteDone (lane : LaneNo) (result : Ended WriteEnd) :
    TableRow.Statement (.skipWriteDone lane result) := by
  show "SKIP_WRITE_DONE" ∈ tableMnemonics
  decide

theorem TableRow.resultSectionWriteDone (lane : LaneNo) (result : Ended WriteEnd) :
    TableRow.Statement (.resultSectionWriteDone lane result) := by
  show "RESULT_SECTION_WRITE_DONE" ∈ tableMnemonics
  decide

theorem TableRow.stateWordWriteDone (lane : LaneNo) (result : Ended WriteEnd) :
    TableRow.Statement (.stateWordWriteDone lane result) := by
  show "STATE_WORD_WRITE_DONE" ∈ tableMnemonics
  decide

theorem TableRow.reportRecordWriteDone (lane : LaneNo) (result : Ended WriteEnd) :
    TableRow.Statement (.reportRecordWriteDone lane result) := by
  show "REPORT_RECORD_WRITE_DONE" ∈ tableMnemonics
  decide

theorem TableRow.stopRecordWriteDone (lane : LaneNo) (result : Ended WriteEnd) :
    TableRow.Statement (.stopRecordWriteDone lane result) := by
  show "STOP_RECORD_WRITE_DONE" ∈ tableMnemonics
  decide

theorem TableRow.faultRecordWriteDone (lane : LaneNo) (result : Ended WriteEnd) :
    TableRow.Statement (.faultRecordWriteDone lane result) := by
  show "FAULT_RECORD_WRITE_DONE" ∈ tableMnemonics
  decide

theorem TableRow.stageNow (lane : LaneNo) :
    TableRow.Statement (.stageNow lane) := by
  show "STAGE_NOW" ∈ tableMnemonics
  decide

theorem TableRow.stageAtOpen (lane : LaneNo) :
    TableRow.Statement (.stageAtOpen lane) := by
  show "STAGE_AT_OPEN" ∈ tableMnemonics
  decide

theorem TableRow.stageCancel (lane : LaneNo) :
    TableRow.Statement (.stageCancel lane) := by
  show "STAGE_CANCEL" ∈ tableMnemonics
  decide

theorem TableRow.openBundle (lane : LaneNo) :
    TableRow.Statement (.openBundle lane) := by
  show "OPEN" ∈ tableMnemonics
  decide

theorem TableRow.snapshot (unit : UnitNo) :
    TableRow.Statement (.snapshot unit) := by
  show "SNAPSHOT" ∈ tableMnemonics
  decide

theorem TableRow.sourceReadDone (unit : UnitNo) (row off : Nat) (result : Ended (ReadEnd (List Byte))) :
    TableRow.Statement (.sourceReadDone unit row off result) := by
  show "SOURCE_READ_DONE" ∈ tableMnemonics
  decide

theorem TableRow.outputWriteDone (unit : UnitNo) (index : Nat) (result : Ended WriteEnd) :
    TableRow.Statement (.outputWriteDone unit index result) := by
  show "OUTPUT_WRITE_DONE" ∈ tableMnemonics
  decide

end Sys2Proof.Laws
end

