-- ==== Sys2Proof/Laws/Profiles.lean ====
section
/-! SUPPORT. What the profile store's operations change and keep (R122, R124, R130 to R133). -/

namespace Sys2Proof.Machine

variable (st : ProfileStore)

@[simp] theorem ProfileStore.applyUpdate_self (p : Fin 16) (u : Update) :
    (st.applyUpdate p u).profiles[p] = st.profiles[p].applyUpdate u := by
  simp [ProfileStore.applyUpdate]

theorem ProfileStore.applyUpdate_other {p q : Fin 16} (u : Update) (h : p ≠ q) :
    (st.applyUpdate p u).profiles[q] = st.profiles[q] := by
  have h' : p.val ≠ q.val := fun e => h (Fin.ext e)
  simp [ProfileStore.applyUpdate, h']

@[simp] theorem ProfileStore.applyUpdate_stageList (p : Fin 16) (u : Update) :
    (st.applyUpdate p u).stageList = st.stageList := rfl

@[simp] theorem ProfileVersion.applyUpdate_generation (v : ProfileVersion) (u : Update) :
    (v.applyUpdate u).generation = v.generation + 1 := rfl

@[simp] theorem ProfileStore.append_profiles (e : StageEntry) : (st.append e).profiles = st.profiles := rfl
@[simp] theorem ProfileStore.append_stageList (e : StageEntry) :
    (st.append e).stageList = st.stageList ++ [e] := rfl

@[simp] theorem ProfileStore.cancel_profiles (p : Fin 16) : (st.cancel p).profiles = st.profiles := rfl

/-- Applications, one after the other, leave the stage list as it was. -/
theorem ProfileStore.foldl_applyUpdate_stageList (es : List StageEntry) :
    (es.foldl (fun acc e => acc.applyUpdate e.profile e.update) st).stageList = st.stageList := by
  induction es generalizing st with
  | nil => rfl
  | cons e es ih => simp [ih]

/-- The list after an OPEN: the entries of the other lanes, in their order (R133). -/
@[simp] theorem ProfileStore.openLane_stageList (n : LaneNo) :
    (st.openLane n).stageList = st.stageList.filter fun e => e.lane ≠ n := by
  simp [ProfileStore.openLane, ProfileStore.foldl_applyUpdate_stageList]

/-- A clamp answers a value of the range (R125). -/
theorem clampTo_mem {lo hi : Nat} (h : lo ≤ hi) (v : Nat) : lo ≤ clampTo lo hi v ∧ clampTo lo hi v ≤ hi := by
  unfold clampTo
  omega

/-- A value within the range is written as it is (R125). -/
theorem clampTo_of_mem {lo hi v : Nat} (hl : lo ≤ v) (hh : v ≤ hi) : clampTo lo hi v = v := by
  unfold clampTo
  omega

/-- A field whose old value lies in its range lies in it after stage 1 (R123 to R125). -/
theorem Update.write_mem (u : Update) (i : Fin 16) {lo hi old : Nat} (h : lo ≤ old ∧ old ≤ hi) :
    lo ≤ u.write i lo hi old ∧ u.write i lo hi old ≤ hi := by
  unfold Update.write
  split
  · exact clampTo_mem (le_trans h.1 h.2) _
  · exact h

end Sys2Proof.Machine
end

