-- ==== Sys2Proof/Laws/Timers.lean ====
section
/-! SUPPORT. What the events of a holdoff timer can do (R151 to R154). -/

namespace Sys2Proof.Machine

variable (t : Timer)

/-- The settings of a timer, which the start sequence and the resets alone change (R150). -/
structure Timer.SameSettings (t t' : Timer) : Prop where
  mode : t'.mode = t.mode
  threshold : t'.threshold = t.threshold
  reload : t'.reload = t.reload
  prescale : t'.prescale = t.prescale

/-- A completion event that raises leaves nothing held; one that does not holds one event more (R152). -/
theorem Timer.completion_held :
    (t.completion.2 = true ∧ t.completion.1.held = 0) ∨
    (t.completion.2 = false ∧ t.completion.1.held = t.held + 1 ∧ t.held + 1 < t.threshold) := by
  unfold Timer.completion
  cases t.mode <;> simp only <;> repeat' split
  all_goals simp_all

theorem Timer.completion_settings : t.SameSettings t.completion.1 := by
  unfold Timer.completion
  constructor <;> cases h : t.mode <;> simp only <;> repeat' split
  all_goals simp_all [Timer.load]

/-- An underflow of a timer that is not OFF leaves nothing held, and it raises when something was (R153). -/
theorem Timer.underflow_cases :
    (t.mode = .off ∧ t.underflow = (t, false)) ∨
    (t.mode ≠ .off ∧ t.underflow.1.held = 0 ∧ t.underflow.2 = decide (0 < t.held)) := by
  cases h : t.mode <;> simp [Timer.underflow, h]

theorem Timer.underflow_settings : t.SameSettings t.underflow.1 := by
  constructor <;> cases h : t.mode <;> simp [Timer.underflow, h, Timer.load]

/-- A tick: nothing for a stopped timer, a decrement above 0, and an underflow at 0 (R151). -/
theorem Timer.tick_cases :
    (t.running = false ∧ t.tick = (t, false)) ∨
    (t.running = true ∧ 0 < t.counter ∧
      t.tick = ({ t with counter := t.counter - 1, interval := 0 }, false)) ∨
    (t.running = true ∧ t.counter = 0 ∧ t.tick = t.underflow) := by
  cases hr : t.running
  · simp [Timer.tick, hr]
  · by_cases hc : 0 < t.counter
    · simp [Timer.tick, hr, hc]
    · simp [Timer.tick, hr, Nat.eq_zero_of_not_pos hc]

theorem Timer.tick_settings : t.SameSettings t.tick.1 := by
  obtain ⟨-, h⟩ | ⟨-, -, h⟩ | ⟨-, -, h⟩ := t.tick_cases <;> rw [h]
  · exact ⟨rfl, rfl, rfl, rfl⟩
  · exact ⟨rfl, rfl, rfl, rfl⟩
  · exact t.underflow_settings

/-- The underflow event: an underflow of a running timer at 0, or nothing (R151, R153). -/
theorem Timer.underflowEvent_cases :
    (t.running = true ∧ t.counter = 0 ∧ t.underflowEvent = t.underflow) ∨
    (¬ (t.running = true ∧ t.counter = 0) ∧ t.underflowEvent = (t, false)) := by
  cases hr : t.running <;> by_cases hc : t.counter = 0 <;> simp [Timer.underflowEvent, hr, hc]

@[simp] theorem Timer.rest_running : t.rest.running = false := rfl
@[simp] theorem Timer.rest_held : t.rest.held = 0 := rfl
@[simp] theorem Timer.freeze_running : t.freeze.running = false := rfl
@[simp] theorem Timer.freeze_held : t.freeze.held = t.held := rfl

end Sys2Proof.Machine
end

