-- ==== Sys2Proof/Laws/Units.lean ====
section
/-! SUPPORT. What an event of an attempt can do to a unit (R52 to R57, R64, R104). -/

namespace Sys2Proof.Machine

/-- An attempt at its end: every request of it has ended, and its phase decides (R52, R53). -/
theorem SideContext.ending_cases (p : Profile) (sd : SideContext) :
    ((sd.quiet = false ∨ sd.phase = .fetching) ∧ sd.ending p = .goesOn) ∨
    (sd.quiet = true ∧ sd.phase = .completed ∧ sd.ending p = .sideEnds (codedResult p sd)) ∨
    (sd.quiet = true ∧ sd.phase = .oversize ∧ sd.step < p.fallbackLimit ∧ sd.ending p = .restart) ∨
    (sd.quiet = true ∧ sd.phase = .oversize ∧ p.fallbackLimit ≤ sd.step ∧
      sd.ending p = .sideEnds (uncodedResult .oversize sd.offset sd.step sd.wo sd.ho)) ∨
    (sd.quiet = true ∧ ∃ st, sd.phase = .failed st ∧
      sd.ending p = .sideEnds (uncodedResult st sd.offset sd.step sd.wo sd.ho)) := by
  cases hq : sd.quiet
  · simp [SideContext.ending, hq]
  · cases hp : sd.phase
    · simp [SideContext.ending, hq, hp]
    · simp [SideContext.ending, hq, hp]
    · by_cases hs : sd.step < p.fallbackLimit
      · simp [SideContext.ending, hq, hp, hs]
      · simp [SideContext.ending, hq, hp, hs]
        omega
    · simp [SideContext.ending, hq, hp]

/-- A read's end is taken when the attempt has the read in flight, and otherwise discarded (R64). -/
theorem ReductionUnit.readEnded_cases (u : ReductionUnit) (row off : Nat) (result : ReadEnd (List Byte))
    (draw : Nat) :
    u.readEnded row off result draw = none ∨
    ∃ it d sd, u.attempt = some (it, d, sd) ∧ sd.accepts row off result = true ∧
      u.readEnded row off result draw = some ((u.withSide
        ((sd.readEnded d it.fields row off result).pump d (itemOutputAddress it.copy) draw)).settle draw) := by
  unfold ReductionUnit.readEnded
  split
  · rename_i it d sd hu
    split
    · rename_i ha
      exact .inr ⟨it, d, sd, hu, ha, rfl⟩
    · exact .inl rfl
  · exact .inl rfl

/-- A write's end is taken when the attempt has the write in flight, and otherwise discarded (R104). -/
theorem ReductionUnit.writeEnded_cases (u : ReductionUnit) (index : Nat) (result : WriteEnd) (draw : Nat) :
    u.writeEnded index result draw = none ∨
    ∃ it d sd, u.attempt = some (it, d, sd) ∧ sd.acceptsWrite index = true ∧
      u.writeEnded index result draw = some ((u.withSide
        ((sd.writeEnded index result).pump d (itemOutputAddress it.copy) draw)).settle draw) := by
  unfold ReductionUnit.writeEnded
  split
  · rename_i it d sd hu
    split
    · rename_i ha
      exact .inr ⟨it, d, sd, hu, ha, rfl⟩
    · exact .inl rfl
  · exact .inl rfl

/-- The attempt in progress belongs to a unit in FRONT or REAR (R43). -/
theorem ReductionUnit.attempt_cases (u : ReductionUnit) (it : ItemContext) (d : SideDescriptor)
    (sd : SideContext) (h : u.attempt = some (it, d, sd)) :
    (u = .front it sd ∧ d = frontDescriptor it.copy) ∨
    (∃ f, u = .rear it f sd ∧ d = rearDescriptor it.copy) := by
  cases u <;> simp only [ReductionUnit.attempt, Option.some.injEq, Prod.mk.injEq] at h
  · cases h
  · cases h
  · obtain ⟨rfl, rfl, rfl⟩ := h
    exact .inl ⟨rfl, rfl⟩
  · obtain ⟨rfl, rfl, rfl⟩ := h
    exact .inr ⟨_, rfl, rfl⟩
  · cases h

/-- The packer: one bit appended keeps the byte count within the budget and the partial byte short of a byte
(R100 to R102). -/
theorem Packer.appendBit_keeps (budget : Nat) (k : Packer) (bit : Bool)
    (h : k.byteCount ≤ budget ∧ k.partialBits.length ≤ 7) :
    (k.appendBit budget bit).byteCount ≤ budget ∧ (k.appendBit budget bit).partialBits.length ≤ 7 := by
  unfold Packer.appendBit
  split
  · exact h
  · split
    · unfold Packer.completeByte
      split <;> simp_all
    · constructor
      · exact h.1
      · simp only [List.length_append, List.length_singleton]
        omega

theorem Packer.append_keeps (budget : Nat) (k : Packer) (bits : List Bool)
    (h : k.byteCount ≤ budget ∧ k.partialBits.length ≤ 7) :
    (k.append budget bits).byteCount ≤ budget ∧ (k.append budget bits).partialBits.length ≤ 7 := by
  induction bits generalizing k with
  | nil => exact h
  | cons b bits ih => exact ih _ (k.appendBit_keeps budget b h)

/-! ### What an attempt issues -/

/-- One read issued: it joins the reads in flight, and the next byte to be asked for moves on (R64). -/
theorem SideContext.issueRead_cases (d : SideDescriptor) (wanted : Nat) (sd : SideContext) :
    ∃ r readRow readOff, r.row = sd.readRow ∧ r.off = sd.readOff ∧ r.bytes = none ∧
      r.address = d.byteAddress sd.readRow sd.readOff ∧
      r.len = requestSize wanted (d.usedBytes - sd.readOff) ∧
      sd.issueRead d wanted =
        { sd with reads := sd.reads ++ [r], readRow := readRow, readOff := readOff } := by
  unfold SideContext.issueRead
  simp only []
  split <;> exact ⟨_, _, _, rfl, rfl, rfl, rfl, rfl, rfl⟩

/-- Reads issued: they join those in flight, and nothing else changes but the next byte to be asked for (R64). -/
theorem SideContext.issueReads_cases (d : SideDescriptor) (draw n i : Nat) (sd : SideContext) :
    ∃ new readRow readOff, (∀ r ∈ new, r.bytes = none) ∧
      sd.issueReads d draw n i =
        { sd with reads := sd.reads ++ new, readRow := readRow, readOff := readOff } := by
  induction n generalizing i sd with
  | zero => exact ⟨[], sd.readRow, sd.readOff, nofun, by simp [SideContext.issueReads]⟩
  | succ n ih =>
    unfold SideContext.issueReads
    split
    · obtain ⟨r, row, off, -, -, hr, -, -, he⟩ := sd.issueRead_cases d (Config.readSize draw i)
      obtain ⟨new, row', off', hn, hs⟩ := ih (i + 1) (sd.issueRead d (Config.readSize draw i))
      refine ⟨r :: new, row', off', by simpa [hr] using hn, ?_⟩
      rw [hs, he]
      simp
    · exact ⟨[], sd.readRow, sd.readOff, nofun, by simp⟩

/-- The reads a step issues, none once the attempt has ended (R64, R65). -/
theorem SideContext.pumpReads_cases (d : SideDescriptor) (draw : Nat) (sd : SideContext) :
    (sd.phase = .fetching ∧ ∃ new readRow readOff, (∀ r ∈ new, r.bytes = none) ∧
      sd.pumpReads d draw = { sd with reads := sd.reads ++ new, readRow := readRow, readOff := readOff }) ∨
    (sd.phase ≠ .fetching ∧ sd.pumpReads d draw = sd) := by
  unfold SideContext.pumpReads
  split
  · exact .inl ⟨‹_›, sd.issueReads_cases d draw _ 0⟩
  · exact .inr ⟨‹_›, rfl⟩

/-- One write issued: it carries the first of the waiting bytes, at least one (R51, R104). -/
theorem SideContext.issueWrite_cases (out : Addr) (wanted : Nat) (sd : SideContext) :
    ∃ w k, 1 ≤ k ∧ w.index = sd.packer.byteCount - sd.packer.waiting.length ∧
      w.address = out + BitVec.ofNat 64 (sd.offset + w.index) ∧ w.bytes = sd.packer.waiting.take k ∧
      sd.issueWrite out wanted =
        { sd with
          writes := sd.writes ++ [w]
          packer := { sd.packer with waiting := sd.packer.waiting.drop k } } := by
  unfold SideContext.issueWrite
  exact ⟨_, requestSize wanted sd.packer.waiting.length, Nat.le_max_left _ _, rfl, rfl, rfl, rfl⟩

/-- Writes issued: they carry the first of the waiting bytes in order, at least one each, and nothing else changes
(R104). -/
theorem SideContext.issueWrites_cases (out : Addr) (draw n i : Nat) (sd : SideContext) :
    ∃ sent waiting, sent.flatMap (fun w : OutputWrite => w.bytes) ++ waiting = sd.packer.waiting ∧
      waiting.length ≤ sd.packer.waiting.length - n ∧
      sd.issueWrites out draw n i =
        { sd with writes := sd.writes ++ sent, packer := { sd.packer with waiting := waiting } } := by
  induction n generalizing i sd with
  | zero => exact ⟨[], sd.packer.waiting, rfl, Nat.le_refl _, by simp [SideContext.issueWrites]⟩
  | succ n ih =>
    unfold SideContext.issueWrites
    split
    · rename_i h
      exact ⟨[], sd.packer.waiting, rfl, by simp [List.isEmpty_iff.mp h], by simp⟩
    · obtain ⟨w, k, hk, -, -, hw, hi⟩ := sd.issueWrite_cases out (Config.writeSize draw i)
      obtain ⟨sent, waiting, hs, hl, he⟩ := ih (i + 1) (sd.issueWrite out (Config.writeSize draw i))
      rw [hi] at hs hl he
      refine ⟨w :: sent, waiting, ?_, ?_, ?_⟩
      · simp only [List.flatMap_cons, List.append_assoc, hs, hw, List.take_append_drop]
      · simp only [List.length_drop] at hl
        omega
      · rw [hi, he]
        simp

end Sys2Proof.Machine
end

