-- ==== Sys2Proof/Laws/Window.lean ====
section
/-! SUPPORT. What a write to each register can do (R168 to R175). -/

namespace Sys2Proof.Machine

variable (s : State)

/-- The Run field of a CONTROL write (R171). -/
theorem State.writeRun_cases (run : Bool) :
    s.writeRun run = s ∨ s.writeRun run = s.drop ∨
    (s.engine = .disabled ∧ run = true ∧ s.area ≠ 0 ∧ s.writeRun run = { s with engine := .running }) ∨
    (s.engine = .running ∧ run = false ∧ s.allAtRest = true ∧
      s.writeRun run = { s with engine := .disabled }) := by
  cases he : s.engine <;> cases run <;> simp only [State.writeRun, he]
  · simp
  · by_cases ha : s.area = 0#64 <;> simp [ha]
  · by_cases hr : s.allAtRest = true <;> simp [hr]
  · simp
  · simp
  · simp

/-- The modes and message enable of a CONTROL write, before its Run field (R170). -/
def State.writeModes (s : State) (w : Word) : State :=
  { s with
    dispatchMode := dispatchModeOf (w.getLsbD 4)
    notice := s.notice.configure (noticeModeOf (w.getLsbD 5)) (w.getLsbD 8) }

/-- A CONTROL write: the engine reset alone, or the modes with the Run field (R170). -/
theorem State.writeControl_cases (w : Word) :
    (w.getLsbD 1 = true ∧ s.writeControl w = s.engineReset) ∨
    (w.getLsbD 1 = false ∧ s.writeControl w = (s.writeModes w).writeRun (w.getLsbD 0)) := by
  cases h : w.getLsbD 1
  · exact .inr ⟨rfl, by rw [State.writeControl, if_neg (by rw [h]; decide)]; rfl⟩
  · exact .inl ⟨rfl, by rw [State.writeControl, if_pos h]⟩

/-- An AREA write (R169). -/
theorem State.writeArea_cases (which : AreaWord) (v : Word) :
    (s.engine = .running ∧ s.writeArea which v = s.drop) ∨
    (s.engine ≠ .running ∧ ∃ a, s.writeArea which v = { s with area := a }) := by
  by_cases h : s.engine = .running
  · simp [State.writeArea, h]
  · right
    refine ⟨h, ?_⟩
    cases which <;> simp only [State.writeArea, h, if_false] <;> exact ⟨_, rfl⟩

/-- A LANE write is passed to one lane, or dropped (R172). -/
theorem State.passAction_cases (lane : Byte) (a : LaneAction) :
    (s.engine = .running ∧ ∃ n : LaneNo, n.val = lane.toNat ∧
      s.passAction lane a = s.setLane n (s.lanes[n].act s.area n a)) ∨
    ((s.engine ≠ .running ∨ 8 ≤ lane.toNat) ∧ s.passAction lane a = s.drop) := by
  unfold State.passAction
  split
  · rename_i h
    split
    · rename_i hr
      exact .inl ⟨hr, ⟨lane.toNat, h⟩, rfl, rfl⟩
    · rename_i hr
      exact .inr ⟨.inl hr, rfl⟩
  · rename_i h
    exact .inr ⟨.inr (Nat.le_of_not_lt h), rfl⟩

/-- A NOTICE command that names a source is taken by the controller, or dropped (R173). -/
theorem State.withSource_cases (source : Byte) (f : Source → NoticeController) :
    (∃ x : Source, x.val = source.toNat ∧ s.withSource source f = s.setNotice (f x)) ∨
    (9 ≤ source.toNat ∧ s.withSource source f = s.drop) := by
  unfold State.withSource
  split
  · rename_i h
    exact .inl ⟨⟨source.toNat, h⟩, rfl, rfl⟩
  · rename_i h
    exact .inr ⟨Nat.le_of_not_lt h, rfl⟩

/-- A read of one word changes nothing, or it is a TAKE (R168). -/
theorem State.readRegister_cases (offset : Nat) :
    (offset = 0x020 ∧ (s.readRegister offset).2 = s.setNotice s.notice.take) ∨
    (offset ≠ 0x020 ∧ (s.readRegister offset).2 = s) := by
  unfold State.readRegister
  split <;> simp_all

/-- A read of some words returns four bytes of each. -/
@[simp] theorem State.readRegisters_length (count offset : Nat) :
    (State.readRegisters count offset s).1.length = 4 * count := by
  induction count generalizing offset s with
  | zero => rfl
  | succ count ih =>
    simp only [State.readRegisters, List.length_append, ih, leBytes, List.length_cons, List.length_nil]
    omega

/-- A read of one aligned word (R168). -/
theorem windowRead_word (offset : Nat) (h : offset % 4 = 0) :
    windowRead s offset 4 = (leBytes 4 (s.readRegister offset).1.toNat, (s.readRegister offset).2) := by
  simp [windowRead, h, State.readRegisters, ceilDiv, leBytes]

/-- A misaligned read of a word or more returns 0 and has no effect (notes/assumptions/7.md). -/
theorem windowRead_misaligned (offset size : Nat) (h : offset % 4 ≠ 0) (hs : 4 ≤ size) :
    windowRead s offset size = (zeros size, s) := by
  simp [windowRead, h, Nat.not_lt.mpr hs]

/-- Reads that do not reach NOTICE change nothing (R168). -/
theorem State.readRegisters_beside (count offset : Nat)
    (h : ∀ i, i < count → offset + 4 * i ≠ 0x020) : (State.readRegisters count offset s).2 = s := by
  induction count generalizing offset s with
  | zero => rfl
  | succ count ih =>
    have h₀ : (s.readRegister offset).2 = s := by
      obtain ⟨he, -⟩ | ⟨-, he⟩ := s.readRegister_cases offset
      · exact absurd he (h 0 (Nat.succ_pos count))
      · exact he
    simp only [State.readRegisters, h₀]
    refine ih s (offset + 4) fun i hi => ?_
    have := h (i + 1) (Nat.succ_lt_succ hi)
    omega

end Sys2Proof.Machine
end

