-- ==== Sys2Proof/Tests/Slice0.lean ====
section
/-! SUPPORT. Tests: the operand checks refuse ill-formed commands; the spec's worked examples and tables come out
as printed; and for each statement with hypotheses a concrete state and operands meet them, clause by clause, at
the ends of their ranges. A name that ends in `_meets` is such a witness; the statement's name stands before it. -/

namespace Sys2Proof.Tests

open Sys2Proof Sys2Proof.Machine

/-! ### Helpers -/

/-- A RUNNING engine with its work area at 0x1000. -/
def running : State :=
  { State.reset with engine := .running, area := 0x1000 }

/-- A lane in a state with a request in flight. -/
def laneIn (state : LaneState) (request : Option LaneRequest) : Lane :=
  { Lane.reset with state := state, request := request }

/-- A RUNNING engine whose lane 7 is the given one. -/
def lane7 (l : Lane) : State :=
  running.setLane 7 l

/-- The state a command leaves. -/
def after (o : Host.Outcome State Fault Refusal) : State :=
  match o with
  | .next t => t
  | .fault _ => State.reset
  | .refused _ => State.reset

/-! ### Operand checks (WellFormed) -/

theorem test_wf_take_of_no_byte : (Instr.take 0x020 0).wellFormed = false := by decide
theorem test_wf_take_below_notice : (Instr.take 0x018 8).wellFormed = false := by decide
theorem test_wf_take_past_notice : (Instr.take 0x024 4).wellFormed = false := by decide
theorem test_wf_take_misaligned_wide : (Instr.take 0x01E 4).wellFormed = false := by decide
theorem test_wf_take_past_the_window : (Instr.take 0x020 4065).wellFormed = false := by decide
theorem test_wf_take_forms :
    (Instr.take 0x020 4).wellFormed = true ∧ (Instr.take 0x023 1).wellFormed = true ∧
      (Instr.take 0x018 16).wellFormed = true ∧ (Instr.take 0x020 4064).wellFormed = true ∧
      (Instr.take 0x01F 2).wellFormed = true ∧ (Instr.take 0x023 3).wellFormed = true := by decide
theorem test_wf_unmapped_of_no_byte : (Instr.unmappedWrite 0x030 0 0).wellFormed = false := by decide
theorem test_wf_unmapped_past_the_window : (Instr.unmappedWrite 0xFFE 4 0).wellFormed = false := by decide
theorem test_wf_unmapped_is_no_start : (Instr.unmappedWrite 0x018 4 0x100).wellFormed = false := by decide
theorem test_wf_unmapped_is_no_unmask : (Instr.unmappedWrite 0x020 4 0x600).wellFormed = false := by decide
theorem test_wf_unmapped_is_no_control : (Instr.unmappedWrite 0x008 4 0).wellFormed = false := by decide
theorem test_wf_unmapped_forms :
    (Instr.unmappedWrite 0x018 4 0x400).wellFormed = true ∧ (Instr.unmappedWrite 0x020 4 0x700).wellFormed = true ∧
      (Instr.unmappedWrite 0x008 2 0).wellFormed = true ∧ (Instr.unmappedWrite 0x000 4 0).wellFormed = true := by
  decide
theorem test_wf_host_half_of_63_bytes : (Instr.hostHalfReadDone 0 ⟨0, .ok (zeros 63)⟩).wellFormed = false := by decide
theorem test_wf_docket_of_64_bytes : (Instr.docketReadDone 0 ⟨0, .ok (zeros 64)⟩).wellFormed = false := by decide
theorem test_wf_source_row_4096 : (Instr.sourceReadDone 0 4096 0 ⟨0, .ok [0]⟩).wellFormed = false := by decide
theorem test_wf_source_of_no_byte : (Instr.sourceReadDone 0 0 0 ⟨0, .ok []⟩).wellFormed = false := by decide
theorem test_wf_source_past_the_row : (Instr.sourceReadDone 0 0 4095 ⟨0, .ok [0, 0]⟩).wellFormed = false := by decide
theorem test_wf_source_error_past_the_row : (Instr.sourceReadDone 0 0 4096 ⟨0, .error⟩).wellFormed = false := by decide
theorem test_wf_output_past_the_budget : (Instr.outputWriteDone 0 1048576 ⟨0, .ok⟩).wellFormed = false := by decide

/-! ### The spec's worked examples -/

/-- The small side of sections 4.7, 5.5 and 6.7. -/
def smallSide : SideDescriptor :=
  { source := 0, stride := 8, ws := 8, hs := 2, dsrc := 240, depth := 8, inverted := false }

/-- Its snapshot. -/
def smallProfile : Profile :=
  { Profile.reset with
    outDpi := 120, contrast := 48, tFloor := 40, tCeil := 220, bgStart := 200, inkGap := 40, kTrack := 2,
    runOrder := 1 }

/-- Its attempt after both source rows. -/
def smallAttempt : SideContext :=
  ((freshAttempt smallSide smallProfile 0 64 0).takeRow smallSide smallProfile
      [210, 214, 90, 70, 208, 212, 206, 200]).takeRow smallSide smallProfile
    [206, 210, 80, 60, 204, 210, 30, 40]

/-- Section 4.7: Wo 4, Ho 1. -/
theorem test_small_side_geometry :
    (smallSide.outputWidth smallProfile 0, smallSide.outputHeight smallProfile 0) = (4, 1) := by decide
/-- Section 5.5: the trackers and ink counters after row 0. -/
theorem test_small_side_trackers :
    smallAttempt.trackers = [202, 200, 202, 200] ∧ smallAttempt.inkCounters = [0, 1, 0, 1] := by decide
/-- Section 6.7: the stream 0xFA 0x80. -/
theorem test_small_side_stream :
    smallAttempt.packer.waiting = [0xFA, 0x80] ∧ smallAttempt.packer.byteCount = 2 ∧
      smallAttempt.phase = .completed := by decide

/-- Section 4.3: the depth-4 row of Ws 5, NORMAL and INVERTED. -/
theorem test_depth_4_row :
    ({ smallSide with ws := 5, depth := 4 }.greyRow [0xF0, 0x8C, 0x3A] = [255, 0, 136, 204, 51]) ∧
      ({ smallSide with ws := 5, depth := 4, inverted := true }.greyRow [0xF0, 0x8C, 0x3A] =
        [0, 255, 119, 51, 204]) := by decide

/-- Section 4.8: the widths of the fallback ladder. -/
theorem test_fallback_ladder_widths :
    let d := { smallSide with ws := 1440, hs := 672, dsrc := 240 }
    (d.outputWidth Profile.reset 0, d.outputHeight Profile.reset 0) = (1200, 560) ∧
      (d.outputWidth Profile.reset 1, d.outputHeight Profile.reset 1) = (900, 420) ∧
      (d.outputWidth Profile.reset 2, d.outputHeight Profile.reset 2) = (600, 280) := by decide

/-- Section 4.9: the quarter-size clamp, and the cap at 2048. -/
theorem test_geometry_clamps :
    outputSize 3600 100 600 = 900 ∧ outputSize 1600 50 600 = 400 ∧ outputSize 4096 600 200 = 2048 ∧
      outputSize 1800 600 200 = 1800 := by decide

/-- The five rows of section 6.8. -/
def fiveRows : List (List Bool) :=
  let stroke := List.replicate 5 false ++ List.replicate 3 true ++ List.replicate 8 false
  [List.replicate 16 false, stroke, stroke, List.replicate 16 true, List.replicate 15 false ++ [true]]

/-- Section 6.8: the six bytes of the five rows. -/
theorem test_five_rows_stream :
    ((Packer.fresh.append 6 (streamBits 1 none fiveRows)).finish 6).waiting =
      [0x6E, 0x84, 0xDC, 0x23, 0x88, 0xC0] := by decide
/-- Section 6.8: they decode into the rows and five zero bits. -/
theorem test_five_rows_decode :
    decodeRows 1 16 5 none (bytesToBits [0x6E, 0x84, 0xDC, 0x23, 0x88, 0xC0]) =
      some (fiveRows, List.replicate 5 false) := by decide
/-- Section 6.8: a budget of 5 is passed at the padding, one of 4 inside row 4. -/
theorem test_five_rows_budgets :
    ((Packer.fresh.append 5 (streamBits 1 none fiveRows)).finish 5).overBudget = true ∧
      (Packer.fresh.append 5 (streamBits 1 none fiveRows)).overBudget = false ∧
      (Packer.fresh.append 4 (streamBits 1 none fiveRows)).overBudget = true := by decide
/-- The table of R98. -/
theorem test_value_codes :
    valueCode 0 8 = [false, false, false, true, false, false, true] ∧
      valueCode 1 3 = [false, true, false, true] ∧ valueCode 3 0 = [true, false, false, false] ∧
      valueCode 3 15 = [false, true, false, true, true, true] ∧ (valueCode 0 2047).length = 23 ∧
      (valueCode 3 2047).length = 20 := by decide

/-- R126: the lower value of a pair prevails. -/
theorem test_pair_rule :
    let given (i : Fin 16) (v : Word) : Update := { mask := 1 <<< i.val, values := Vector.replicate 16 v }
    (Profile.reset.writeFields (given 3 30)).orderPairs.tCeil = 40 ∧
      (Profile.reset.writeFields (given 2 230)).orderPairs.tCeil = 230 ∧
      (Profile.reset.writeFields (given 10 300)).orderPairs.bytesHigh = 512 := by decide
/-- R125: the clamps of its table. -/
theorem test_clamps :
    clampTo 50 600 0 = 50 ∧ clampTo 50 600 700 = 600 ∧ clampTo 32 63 20 = 32 ∧ clampTo 64 1048576 10 = 64 ∧
      clampTo 0 1000 4294967295 = 1000 := by decide

/-- R157: with L = 3 the ranking is 4, 5, 6, 7, 8, 0, 1, 2, 3. -/
theorem test_ranking_from_3 : sourceRanking 3 = [4, 5, 6, 7, 8, 0, 1, 2, 3] := by decide

/-- A state in which the given lanes have asked for a unit. -/
def asking (mode : DispatchMode) (lanes : List LaneNo) : State :=
  { running with dispatchMode := mode, requests := Vector.ofFn fun n => lanes.contains n }

/-- Section 3.10, ROTATING: the second grant at once pairs unit 1 with lane 5, and the pointer is 5. -/
theorem test_rotating_grants :
    let s := State.grantAll 2 (asking .rotating [2, 5, 6])
    s.units[(0 : UnitNo)].lane? = some 2 ∧ s.units[(1 : UnitNo)].lane? = some 5 ∧ s.rotation = 5 := by decide
/-- Section 3.10: unit 0 then goes to lane 6 under ROTATING and to lane 1 under FIXED. -/
theorem test_next_grant_by_mode :
    ({ asking .rotating [1, 6] with rotation := 5 }).winner = some 6 ∧ (asking .fixed [1, 6]).winner = some 1 := by
  decide

/-- An ITEM copy with the fields of section 3.11, but for the front stride given. -/
def itemCopy (frontStride : Nat) : List Byte :=
  leBytes 4 1 ++ leBytes 1 1 ++ zeros 3 ++ leBytes 4 0xA1B2C3D4 ++ zeros 4 ++ leBytes 8 0 ++ leBytes 1 7
    ++ leBytes 1 1 ++ zeros 6 ++ leBytes 8 0x0000004020000000 ++ leBytes 4 20000 ++ zeros 4
    ++ leBytes 8 0x10000 ++ leBytes 4 frontStride ++ leBytes 2 1700 ++ leBytes 2 760 ++ leBytes 2 200
    ++ leBytes 1 4 ++ leBytes 1 0 ++ zeros 12
    ++ leBytes 8 0x20000 ++ leBytes 4 1700 ++ leBytes 2 1700 ++ leBytes 2 760 ++ leBytes 2 200
    ++ leBytes 1 8 ++ leBytes 1 0 ++ zeros 12 ++ zeros 48 ++ zeros 96

/-- Section 3.11: a front stride of 848 is refused with STRIDE, and 850 is admitted. -/
theorem test_admission_by_stride :
    admission (itemCopy 848) = .refused .stride ∧ admission (itemCopy 850) = .admitted 7 := by decide

/-- R57 and R117: OVERSIZE beside a flagged side is OVERSIZE; FALLBACK alone is OK. -/
theorem test_item_outcomes :
    let coded : SideResult := { uncodedResult .coded 0 1 16 16 with byteCount := 9 }
    itemOutcome coded absentResult = .ok ∧
      itemOutcome { coded with flags := { coded.flags with small := true } } coded = .flagged ∧
      itemOutcome (uncodedResult .oversize 0 2 16 16) { coded with flags := { coded.flags with small := true } } =
        .oversize ∧
      itemOutcome (uncodedResult .writeError 0 0 16 16) notRunResult = .writeError := by decide

/-- R111: at Ho 420 a column of 394 black pixels counts and one of 393 does not. -/
theorem test_streak_columns : streakColumns [394, 393] 420 = 1 := by decide

/-! ### Witnesses: the queue, LANE and CONTROL -/

/-- A timer that runs in REPEAT mode at prescale 0. -/
def repeatTimer (counter held : Nat) : Timer :=
  { Timer.reset with
    mode := .repeating, threshold := 3, reload := 5, counter := counter, running := true, held := held }

/-- EmptyQueueLetsAMicrosecondPass: an empty queue, and the ticks of two timers that come due, in lane order. -/
theorem test_EmptyQueueLetsAMicrosecondPass_meets :
    let s := (lane7 { Lane.reset with timer := repeatTimer 0 1 }).setLane 2 { Lane.reset with timer := repeatTimer 1 1 }
    s.pending = [] ∧ s.microsecond.pending = [.holdoffTick 2, .holdoffUnderflow 7] ∧ s.microsecond.timeBase = 1 := by
  decide

/-- StartFromRestRunsTheStartSequence: IDLE with no request, and STOPPED with its stop write in flight. -/
theorem test_StartFromRestRunsTheStartSequence_meets :
    let stopped := { laneIn .stopped (some (.recordWrite .stop 0x13C0 [])) with cursor := 0x4000 }
    (lane7 (laneIn .idle none)).engine = .running ∧ (lane7 (laneIn .idle none)).lanes[(7 : LaneNo)].request = none ∧
      (after (exec (.start 7) (lane7 (laneIn .idle none)))).lanes[(7 : LaneNo)].request = some (.hostHalfRead 0x1380) ∧
      (lane7 stopped).lanes[(7 : LaneNo)].request = some (.recordWrite .stop 0x13C0 []) ∧
      (after (exec (.start 7) (lane7 stopped))).lanes[(7 : LaneNo)].startDue = true ∧
      (after (exec (.start 7) (lane7 stopped))).lanes[(7 : LaneNo)].cursor = 0x4000 := by decide

/-- LaneActionsSetFlagsOrDoNothing: ACTIVE and FAULTED. -/
theorem test_LaneActionsSetFlagsOrDoNothing_meets :
    (lane7 (laneIn .active none)).lanes[(7 : LaneNo)].state = .active ∧
      (after (exec (.stop 7) (lane7 (laneIn .active none)))).lanes[(7 : LaneNo)].stopPending = true ∧
      (after (exec (.post 7) (lane7 (laneIn .active none)))).lanes[(7 : LaneNo)].postLatch = true ∧
      (lane7 (laneIn .faulted none)).lanes[(7 : LaneNo)].state = .faulted := by decide

/-- LaneActionsInWaiting: WAITING with stop pending clear, from the anchor link and from a cursor. -/
theorem test_LaneActionsInWaiting_meets :
    let l := laneIn .waiting none
    (lane7 l).lanes[(7 : LaneNo)].state = .waiting ∧ (lane7 l).lanes[(7 : LaneNo)].stopPending = false ∧
      (after (exec (.post 7) (lane7 l))).lanes[(7 : LaneNo)].request = some (.linkRead 0x1380) ∧
      (after (exec (.post 7) (lane7 { l with cursor := 0x4000 }))).lanes[(7 : LaneNo)].request =
        some (.linkRead 0x4010) ∧
      (after (exec (.stop 7) (lane7 l))).lanes[(7 : LaneNo)].state = .stopped := by decide

/-- DroppedWritesSetTheFlagAlone: the clauses at the ends of their ranges. -/
theorem test_DroppedWritesSetTheFlagAlone_meets :
    State.reset.engine ≠ .running ∧ 8 ≤ (8 : Byte).toNat ∧ (0x009 : BitVec 12).toNat % 4 ≠ 0 ∧
      (0x004 : BitVec 12).toNat ∉ [0x000, 0x008, 0x010, 0x014, 0x018, 0x020, 0x028] ∧
      (0xFFC : BitVec 12).toNat ∉ [0x000, 0x008, 0x010, 0x014, 0x018, 0x020, 0x028] ∧
      ((0x0000 : Word).extractLsb' 8 8).toNat = 0 ∧ 4 ≤ ((0x0400 : Word).extractLsb' 8 8).toNat ∧
      7 ≤ ((0x0700 : Word).extractLsb' 8 8).toNat ∧
      (after (exec (.unmappedWrite 0x008 2 0) State.reset)).dropped = true ∧
      (after (exec (.start 8) running)).dropped = true ∧
      (after (exec (.unmappedWrite 0x000 4 0) State.reset)).dropped = false := by decide

/-- RunSetEntersRunning: DISABLED with AREA nonzero and with AREA 0, and HALTED. -/
theorem test_RunSetEntersRunning_meets :
    ({ State.reset with area := 0x1000 }).engine = .disabled ∧ ({ State.reset with area := 0x1000 }).area ≠ 0 ∧
      (after (exec (.runSet 0x131) { State.reset with area := 0x1000 })).engine = .running ∧
      State.reset.area = 0 ∧ (after (exec (.runSet 1) State.reset)).dropped = true ∧
      ({ State.reset with engine := .halted }).engine ≠ .disabled := by decide

/-- RunClearLeavesRunningAtRest: RUNNING at rest, RUNNING with a lane's stop write in flight, and HALTED. -/
theorem test_RunClearLeavesRunningAtRest_meets :
    running.allAtRest = true ∧ (after (exec (.runClear 0) running)).engine = .disabled ∧
      (lane7 (laneIn .stopped (some (.recordWrite .stop 0x13C0 [])))).allAtRest = false ∧
      (after (exec (.runClear 0) (lane7 (laneIn .waiting none)))).dropped = true ∧
      (after (exec (.runClear 0) { running with engine := .halted })).dropped = true := by decide

/-- AreaAndStatusWrites: RUNNING, and DISABLED. -/
theorem test_AreaAndStatusWrites_meets :
    running.engine = .running ∧ State.reset.engine ≠ .running ∧
      (after (exec (.areaWrite .low 0xFFFFFFFF) State.reset)).area = 0xFFFFF000 ∧
      (after (exec (.areaWrite .high 0x12) State.reset)).area = 0x1200000000 ∧
      (after (exec (.statusWrite 0x100) { running with dropped := true })).dropped = false := by decide

/-- RegistersReadTheirFieldsWordByWord: narrow reads within a word of AREA and across its two, the 64-bit read, a
misaligned 32-bit read, and the reset values of CONTROL and STATUS. -/
theorem test_RegistersReadTheirFieldsWordByWord_meets :
    let s := { State.reset with area := 0x1122334455667000 }
    (windowRead s 0x011 2).1 = [0x70, 0x66] ∧ (windowRead s 0x013 2).1 = [0x55, 0x44] ∧
      (windowRead s 0x012 3).1 = [0x66, 0x55, 0x44] ∧
      (windowRead s 0x010 8).1 = [0, 0x70, 0x66, 0x55, 0x44, 0x33, 0x22, 0x11] ∧
      (windowRead s 0x010 5).1 = [0, 0x70, 0x66, 0x55, 0x44] ∧ (windowRead s 0x012 4).1 = [0, 0, 0, 0] ∧
      State.reset.controlWord = 0 ∧ State.reset.statusWord = 0xF000 ∧ 0xFFC % 4 = 0 ∧
      0xFFC ∉ [0x000, 0x008, 0x010, 0x014, 0x020, 0x028] := by decide

/-- WindowWritesCarryTheCommands: a word for each command of LANE and NOTICE, and the bits of CONTROL. -/
theorem test_WindowWritesCarryTheCommands_meets :
    (0x0107 : Word).extractLsb' 8 8 = 1 ∧ (0x0207 : Word).extractLsb' 8 8 = 2 ∧
      (0x0307 : Word).extractLsb' 8 8 = 3 ∧ (0x0408 : Word).extractLsb' 8 8 = 4 ∧
      (0x0508 : Word).extractLsb' 8 8 = 5 ∧ (0x0608 : Word).extractLsb' 8 8 = 6 ∧
      (0x2 : Word).getLsbD 1 = true ∧ (0x131 : Word).getLsbD 1 = false ∧ (0x131 : Word).getLsbD 0 = true ∧
      (0x130 : Word).getLsbD 0 = false := by decide

/-! ### Witnesses: NOTICE, the message and the timers -/

/-- A notice controller with the given sources pending and in service. -/
def noticeOf (pending inService : List Source) : NoticeController :=
  { NoticeController.reset with
    pending := Vector.ofFn fun x => pending.contains x, inService := Vector.ofFn fun x => inService.contains x }

/-- A RUNNING engine with such a controller. -/
def noticeState (pending inService : List Source) : State :=
  { running with notice := noticeOf pending inService }

/-- RaisesEligibilityRankingAndPeek: a pending source, one blocked in NESTED mode, and no eligible source. -/
theorem test_RaisesEligibilityRankingAndPeek_meets :
    let c := noticeOf [8, 2] [2]
    c.pending[(8 : Source)] = true ∧ c.raise 8 = c ∧ c.eligible 8 = false ∧ c.eligible 2 = false ∧
      c.peek = none ∧ (c.raise 0).peek = some 0 ∧ (c.raise 0).line = true ∧
      ({ c with mode := .autoEnd }).peek = some 2 := by decide

/-- TakeReturnsTheHighestRankedSource: the last byte of NOTICE and the whole word, with none eligible and with
source 8 the highest. -/
theorem test_TakeReturnsTheHighestRankedSource_meets :
    0x020 ≤ (0x023 : BitVec 12).toNat ∧ (0x023 : BitVec 12).toNat < 0x024 ∧
      (0x023 : BitVec 12).toNat % 4 + 1 ≤ 4 ∧
      (∀ x : Source, (noticeState [] []).notice.eligible x = false) ∧
      (after (exec (.take 0x023 1) (noticeState [] []))).readData = [0] ∧
      (after (exec (.take 0x020 4) (noticeState [] []))).readData = [15, 0, 0, 0] ∧
      (noticeState [8] []).notice.eligible 8 = true ∧
      (∀ y : Source, (noticeState [8] []).notice.eligible y = true → sourceRank 8 8 ≤ sourceRank 8 y) ∧
      (after (exec (.take 0x020 4) (noticeState [8] []))).readData = [8, 0, 0, 0] ∧
      (after (exec (.take 0x020 4) (noticeState [8] []))).notice.inService[(8 : Source)] = true := by decide

/-- RegistersReadTheirFieldsWordByWord: every narrow or wide read that reaches NOTICE is a TAKE, from both sides of
its word, and a misaligned wide one is not. -/
theorem test_RegistersReadTheirFieldsWordByWord_meets_on_take :
    let takes (offset : BitVec 12) (size : Nat) := after (exec (.take offset size) (noticeState [8] []))
    (takes 0x01F 2).readData = [0, 8] ∧ (takes 0x01F 2).notice.inService[(8 : Source)] = true ∧
      (takes 0x023 2).readData = [0, 0] ∧ (takes 0x023 2).notice.inService[(8 : Source)] = true ∧
      (takes 0x018 16).readData = [0, 0, 0, 0, 0, 0, 0, 0, 8, 0, 0, 0, 0, 0, 0, 0] ∧
      (takes 0x018 16).notice.pending[(8 : Source)] = false ∧
      (takes 0x01E 4).readData = [0, 0, 0, 0] ∧ (takes 0x01E 4).notice.pending[(8 : Source)] = true := by decide

/-- NoticeCommands: sources 0, 8 and 9, an empty in-service set, and the highest of two in service. -/
theorem test_NoticeCommands_meets :
    ((8 : Source).val = (8 : Byte).toNat) ∧ ((0 : Source).val = (0 : Byte).toNat) ∧ 9 ≤ (9 : Byte).toNat ∧
      (∀ x : Source, (noticeState [] []).notice.inService[x] = false) ∧
      (let s := noticeState [] [3, 8]
      s.notice.inService[(3 : Source)] = true ∧
        (∀ y : Source, s.notice.inService[y] = true → sourceRank 8 3 ≤ sourceRank 8 y) ∧
        (after (exec (.endAny 0) s)).notice.inService[(3 : Source)] = false ∧
        (after (exec (.endAnyRotate 0) s)).notice.lowest = 3 ∧
        (after (exec (.endSource 8) s)).notice.inService[(8 : Source)] = false) := by decide

/-- NoticeCommands: LOWEST, MASK, UNMASK, and a source of 9. -/
theorem test_NoticeCommands_meets_on_pointer_and_mask :
    (after (exec (.lowest 0) running)).notice.lowest = 0 ∧
      (after (exec (.mask 8) running)).notice.masked[(8 : Source)] = true ∧
      (after (exec (.unmask 8) (after (exec (.mask 8) running)))).notice.masked[(8 : Source)] = false ∧
      (after (exec (.unmask 9) running)).dropped = true := by decide

/-- MessagesFollowRises: MESSAGE_ENABLE with the line true makes a message due; a second rise queues one behind
the one in flight; MASK is no rise. -/
theorem test_MessagesFollowRises_meets :
    let s := noticeState [4] []
    (Instr.messageEnable true).wellFormed = true ∧ (s.notice.line && s.notice.messageEnable) = false ∧
      (after (exec (.messageEnable true) s)).notice.inFlight = true ∧
      (let t := { s with notice := { s.notice with inFlight := true } }
      (after (exec (.messageEnable true) t)).notice.due = true) ∧
      (after (exec (.mask 4) s)).notice.inFlight = false := by decide

/-- MessageIsSentOrLost: one in flight with one due behind it, and none in flight. -/
theorem test_MessageIsSentOrLost_meets :
    let c := { noticeOf [] [] with inFlight := true, due := true }
    let o : MessageOutlet := { msiEnabled := true, busMaster := true, linkUp := false, address := 0, data := 0 }
    c.inFlight = true ∧ (c.issueMessage o).sent = 0 ∧ (c.issueMessage { o with linkUp := true }).sent = 1 ∧
      (c.issueMessage o).inFlight = true ∧ (c.issueMessage o).due = false ∧ running.notice.inFlight = false := by
  decide

/-- TicksAndUnderflows: a stopped timer, a running one above 0 and at 0, REPEAT and ONESHOT. -/
theorem test_TicksAndUnderflows_meets :
    (lane7 (laneIn .idle none)).lanes[(7 : LaneNo)].timer.running = false ∧
      (let s := lane7 { Lane.reset with timer := repeatTimer 1 2 }
      s.lanes[(7 : LaneNo)].timer.running = true ∧ 0 < s.lanes[(7 : LaneNo)].timer.counter ∧
        (after (exec (.holdoffTick 7) s)).lanes[(7 : LaneNo)].timer.counter = 0) ∧
      (let s := lane7 { Lane.reset with timer := repeatTimer 0 2 }
      s.lanes[(7 : LaneNo)].timer.counter = 0 ∧ s.lanes[(7 : LaneNo)].timer.mode ≠ .off ∧
        (after (exec (.holdoffUnderflow 7) s)).notice.pending[(8 : Source)] = true ∧
        (after (exec (.holdoffUnderflow 7) s)).lanes[(7 : LaneNo)].timer.counter = 5) ∧
      (let s := lane7 { Lane.reset with timer := { repeatTimer 0 1 with mode := .oneshot } }
      (after (exec (.holdoffTick 7) s)).lanes[(7 : LaneNo)].timer.running = false) := by decide

/-- TicksCountTheReloadDown: as many ticks as the counter holds. -/
theorem test_TicksCountTheReloadDown_meets :
    let s :=
      { lane7 { Lane.reset with timer := repeatTimer 2 1 } with
        pending := List.replicate 2 (Instr.holdoffTick 7) ++ [Instr.start 0] }
    s.pending = List.replicate 2 (Instr.holdoffTick 7) ++ [Instr.start 0] ∧ s.lanes[(7 : LaneNo)].timer.running = true ∧
      1 ≤ 2 ∧ 2 ≤ s.lanes[(7 : LaneNo)].timer.counter := by decide

/-- HostHalfConfiguresTheTimer: a half of 64 bytes with threshold 0, prescale exponent 15 and mode REPEAT. -/
theorem test_HostHalfConfiguresTheTimer_meets :
    let half := zeros 8 ++ [2, 0, 0x1F, 0, 0xFF, 0xFF] ++ zeros 50
    let s := lane7 (laneIn .checking (some (.hostHalfRead 0x1380)))
    s.lanes[(7 : LaneNo)].request = some (.hostHalfRead 0x1380) ∧ half.length = 64 ∧
      (after (exec (.hostHalfReadDone 7 ⟨0, .ok half⟩) s)).lanes[(7 : LaneNo)].timer =
        { mode := .repeating, threshold := 1, reload := 65535, prescale := 14, counter := 65535, running := true,
          held := 0, interval := 0 } := by decide

/-! ### Witnesses: the check, the claim, reports and faults -/

/-- StartAndSkipWritesReachTheCheckBoundary: the start write with stop pending clear, the skip write with it set. -/
theorem test_StartAndSkipWritesReachTheCheckBoundary_meets :
    let s := lane7 (laneIn .checking (some (.recordWrite .start 0x13C0 [])))
    let t := lane7 { laneIn .checking (some (.recordWrite .skip 0x13C0 [])) with stopPending := true }
    s.lanes[(7 : LaneNo)].request = some (.recordWrite .start 0x13C0 []) ∧
      s.lanes[(7 : LaneNo)].stopPending = false ∧
      (after (exec (.startRecordWriteDone 7 ⟨0, .ok⟩) s)).lanes[(7 : LaneNo)].request = some (.linkRead 0x1380) ∧
      t.lanes[(7 : LaneNo)].request = some (.recordWrite .skip 0x13C0 []) ∧
      t.lanes[(7 : LaneNo)].stopPending = true ∧
      (after (exec (.skipWriteDone 7 ⟨0, .ok⟩) t)).lanes[(7 : LaneNo)].state = .stopped := by decide

/-- FindingNothingWaitsRereadsOrStops: a link of 0 with the latch clear and set, and EMPTY with stop pending. -/
theorem test_FindingNothingWaitsRereadsOrStops_meets :
    let l := laneIn .checking (some (.linkRead 0x1380))
    let e := { laneIn .checking (some (.stateWordRead 0x40)) with stopPending := true }
    (lane7 l).lanes[(7 : LaneNo)].request = some (.linkRead 0x1380) ∧
      (lane7 l).lanes[(7 : LaneNo)].postLatch = false ∧ (lane7 l).lanes[(7 : LaneNo)].stopPending = false ∧
      (after (exec (.linkReadDone 7 ⟨0, .ok 0⟩) (lane7 l))).lanes[(7 : LaneNo)].state = .waiting ∧
      (after (exec (.linkReadDone 7 ⟨0, .ok 0⟩) (lane7 { l with postLatch := true }))).lanes[(7 : LaneNo)].state =
        .checking ∧
      (lane7 e).lanes[(7 : LaneNo)].request = some (.stateWordRead 0x40) ∧
      (after (exec (.stateWordReadDone 7 ⟨0, .ok 0⟩) (lane7 e))).lanes[(7 : LaneNo)].state = .stopped := by decide

/-- PostedDocketIsClaimedAndWithdrawnSkipped: the least aligned link, POSTED, the docket read, and WITHDRAWN. -/
theorem test_PostedDocketIsClaimedAndWithdrawnSkipped_meets :
    let s (r : LaneRequest) := lane7 { laneIn .checking (some r) with docket := 0x40 }
    (0x40 : Addr) ≠ 0 ∧ (0x40 : Addr).toNat % 64 = 0 ∧
      (s (.linkRead 0x1380)).lanes[(7 : LaneNo)].request = some (.linkRead 0x1380) ∧
      (after (exec (.linkReadDone 7 ⟨0, .ok 0x40⟩) (s (.linkRead 0x1380)))).lanes[(7 : LaneNo)].request =
        some (.stateWordRead 0x40) ∧
      (after (exec (.stateWordReadDone 7 ⟨0, .ok 1⟩) (s (.stateWordRead 0x40)))).lanes[(7 : LaneNo)].request =
        some (.docketRead 0x44) ∧
      (after (exec (.docketReadDone 7 ⟨0, .ok [9]⟩) (s (.docketRead 0x44)))).lanes[(7 : LaneNo)].request =
        some (.claim 0x40 1 2) ∧
      (s (.claim 0x40 1 2)).lanes[(7 : LaneNo)].request = some (.claim 0x40 1 2) ∧
      (after (exec (.claimDone 7 ⟨0, .ok 5⟩) (s (.claim 0x40 1 2)))).lanes[(7 : LaneNo)].skipped = 1 := by decide

/-- A lane whose claim is in flight, with a docket copy of the given kind and body. -/
def claiming (kind : Nat) (body : List Byte) : State :=
  lane7
    { laneIn .checking (some (.claim 0x40 1 2)) with
      docket := 0x40, copy := some (leBytes 4 1 ++ leBytes 1 kind ++ zeros 19 ++ body) }

/-- What the lane becomes when its claim succeeds. -/
def claimed (s : State) : Lane :=
  (after (exec (.claimDone 7 ⟨0, .ok 1⟩) s)).lanes[(7 : LaneNo)]

/-- The refusal code the lane reports. -/
def refusalOf (l : Lane) : Option RefusalCode :=
  l.report.map (·.refusal)

/-- The claiming state with a bundle of id 9 open on the lane. -/
def claimingInBundle (kind : Nat) (body : List Byte) : State :=
  let s := claiming kind body
  s.setLane 7 { s.lanes[(7 : LaneNo)] with bundle := { Bundle.reset with isOpen := true, id := 9 } }

/-- ControlDocketsExecuteFromTheCopy: kinds 0 and 5, and OPEN and CLOSE in and out of a bundle. -/
theorem test_ControlDocketsExecuteFromTheCopy_meets :
    (claiming 0 []).lanes[(7 : LaneNo)].request = some (.claim 0x40 1 2) ∧
      refusalOf (claimed (claiming 0 [])) = some .kind ∧ refusalOf (claimed (claiming 5 [])) = some .kind ∧
      refusalOf (claimed (claimingInBundle 2 [9, 0, 0, 0])) = some .bundleState ∧
      (claimed (claiming 2 [9, 0, 0, 0])).storeRequest = some (.openBundle 9) ∧
      refusalOf (claimed (claiming 3 [9, 0, 0, 0])) = some .bundleState ∧
      refusalOf (claimed (claimingInBundle 3 [8, 0, 0, 0])) = some .bundleId ∧
      refusalOf (claimed (claimingInBundle 3 [9, 0, 0, 0])) = some .none := by decide

/-- ControlDocketsExecuteFromTheCopy: STAGE with profile 15 and 16, triggers 0 to 4, and trigger lanes 7 and 8. -/
theorem test_ControlDocketsExecuteFromTheCopy_meets_on_stage :
    refusalOf (claimed (claiming 4 [16, 1, 0])) = some .profile ∧
      refusalOf (claimed (claiming 4 [15, 0, 0])) = some .trigger ∧
      refusalOf (claimed (claiming 4 [15, 4, 0])) = some .trigger ∧
      refusalOf (claimed (claiming 4 [15, 2, 8])) = some .trigger ∧
      (claimed (claiming 4 [15, 3, 8])).storeRequest = some (.cancel 15) ∧
      (claimed (claiming 4 [15, 1, 8])).storeRequest =
        some (.now 15 { mask := 0, values := Vector.replicate 16 0 }) ∧
      (claimed (claiming 4 [15, 2, 7])).storeRequest =
        some (.atOpen { profile := 15, lane := 7, update := { mask := 0, values := Vector.replicate 16 0 } }) := by
  decide

/-- ClaimedItemAsksForAUnit: an item with no unit IDLE, one refused by unit 1, and one admitted to unit 0. -/
theorem test_ClaimedItemAsksForAUnit_meets :
    let s := claiming 1 [16]
    let item : State := s.setLane 7 { s.lanes[(7 : LaneNo)] with copy := some (itemCopy 850) }
    let busy : ReductionUnit := .admitting 0 [] (some 0)
    (∀ m : LaneNo, s.requests[m] = false) ∧ (∀ u : UnitNo, s.units[u] = .idle) ∧ s.engine = .running ∧
      refusalOf (claimed { s with units := s.units.set 0 busy }) = some .profile ∧
      (∀ u : UnitNo, ({ s with units := Vector.replicate 2 busy }).units[u] ≠ .idle) ∧
      (claimed { s with units := Vector.replicate 2 busy }).state = .holding ∧
      (after (exec (.claimDone 7 ⟨0, .ok 1⟩) item)).units[(0 : UnitNo)].lane? = some 7 ∧
      (after (exec (.claimDone 7 ⟨0, .ok 1⟩) item)).units[(0 : UnitNo)].settled = true := by decide

/-- A lane at one of the steps of a report. -/
def reporting (r : LaneRequest) : Lane :=
  { laneIn .active (some r) with
    docket := 0x80, copy := some (zeros 8 ++ [0x65, 0, 0, 0]),
    report := some { refusal := .kind, result := refusedResultBytes, change := .none } }

/-- ReportStepsOneAndTwo: the two steps of a REFUSED report. -/
theorem test_ReportStepsOneAndTwo_meets :
    let s := lane7 (reporting (.resultWrite 0x120 []))
    let t := lane7 (reporting (.stateWordWrite 0x80 4))
    s.lanes[(7 : LaneNo)].request = some (.resultWrite 0x120 []) ∧ s.lanes[(7 : LaneNo)].report ≠ none ∧
      (after (exec (.resultSectionWriteDone 7 ⟨0, .ok⟩) s)).lanes[(7 : LaneNo)].request =
        some (.stateWordWrite 0x80 4) ∧
      (after (exec (.stateWordWriteDone 7 ⟨0, .ok⟩) t)).lanes[(7 : LaneNo)].cursor = 0x80 ∧
      (after (exec (.stateWordWriteDone 7 ⟨0, .ok⟩) t)).lanes[(7 : LaneNo)].lastSequence = 0x65 ∧
      (after (exec (.stateWordWriteDone 7 ⟨0, .ok⟩) t)).lanes[(7 : LaneNo)].finished = 1 := by decide

/-- BundleChangesAtStepThree: a closed bundle, and an open one whose bytes counter wraps. -/
theorem test_BundleChangesAtStepThree_meets :
    Bundle.reset.isOpen = false ∧ Bundle.reset.change .itemRefused = Bundle.reset ∧
      (({ Bundle.reset with isOpen := true, bytes := 0xFFFFFFFF }).change (.itemDone .readError 1 2)).bytes = 1 ∧
      (({ Bundle.reset with isOpen := true }).change (.itemDone .writeError 0 0)).errors = 1 := by decide

/-- The completion state of R155: held count h, threshold 3, ONESHOT. -/
def completing (held : Nat) (run : Bool) : Lane :=
  { laneIn .active (some (.recordWrite .report 0x13C0 [])) with
    timer := { repeatTimer 0 held with mode := .oneshot, running := run } }

/-- ReportEndsWithACompletionEvent: held 0 loads and starts, held 1 runs on, held 2 of threshold 3 raises; with
stop pending the lane enters STOPPED. -/
theorem test_ReportEndsWithACompletionEvent_meets :
    let ends (l : Lane) := after (exec (.reportRecordWriteDone 7 ⟨0, .ok⟩) (lane7 l))
    (lane7 (completing 0 false)).lanes[(7 : LaneNo)].request = some (.recordWrite .report 0x13C0 []) ∧
      (ends (completing 0 false)).lanes[(7 : LaneNo)].timer.counter = 5 ∧
      (ends (completing 0 false)).lanes[(7 : LaneNo)].timer.running = true ∧
      (ends (completing 1 true)).notice.pending[(8 : Source)] = false ∧
      (ends (completing 2 true)).notice.pending[(8 : Source)] = true ∧
      (ends (completing 2 true)).lanes[(7 : LaneNo)].timer.held = 0 ∧
      (ends { completing 0 false with stopPending := true }).lanes[(7 : LaneNo)].state = .stopped := by decide

/-- StopAndFaultWritesRaiseTheSource: a stop write, and a fault write that a START waits for. -/
theorem test_StopAndFaultWritesRaiseTheSource_meets :
    let s := lane7 (laneIn .stopped (some (.recordWrite .stop 0x13C0 [])))
    let t := lane7 { laneIn .checking (some (.recordWrite .fault 0x13C0 [])) with startDue := true }
    s.lanes[(7 : LaneNo)].request = some (.recordWrite .stop 0x13C0 []) ∧
      (after (exec (.stopRecordWriteDone 7 ⟨0, .ok⟩) s)).notice.pending[(8 : Source)] = true ∧
      t.lanes[(7 : LaneNo)].request = some (.recordWrite .fault 0x13C0 []) ∧
      (after (exec (.faultRecordWriteDone 7 ⟨0, .ok⟩) t)).lanes[(7 : LaneNo)].request = some (.hostHalfRead 0x1380) := by
  decide

/-- The fault code and the docket address a command leaves on lane 7. -/
def faultOf (c : Instr) (l : Lane) : FaultCode × Addr :=
  let l' := (after (exec c (lane7 l))).lanes[(7 : LaneNo)]
  (l'.lastFault, l'.lastFaultDocket)

/-- LaneFaultsByCause: the ten causes, from a cursor of 0x4000 and a docket at 0x80. -/
theorem test_LaneFaultsByCause_meets :
    let l (r : LaneRequest) := { laneIn .checking (some r) with cursor := 0x4000, docket := 0x80 }
    (lane7 (l (.hostHalfRead 0))).lanes[(7 : LaneNo)].request = some (.hostHalfRead 0) ∧
      faultOf (.hostHalfReadDone 7 ⟨0, .error⟩) (l (.hostHalfRead 0)) = (.linkRead, 0x4000) ∧
      faultOf (.linkReadDone 7 ⟨0, .error⟩) (l (.linkRead 0)) = (.linkRead, 0x4000) ∧
      faultOf (.linkReadDone 7 ⟨0, .ok 0x3F⟩) (l (.linkRead 0)) = (.badLink, 0x3F) ∧
      faultOf (.stateWordReadDone 7 ⟨0, .error⟩) (l (.stateWordRead 0)) = (.linkRead, 0x80) ∧
      faultOf (.stateWordReadDone 7 ⟨0, .ok 2⟩) (l (.stateWordRead 0)) = (.badState, 0x80) ∧
      faultOf (.stateWordReadDone 7 ⟨0, .ok 6⟩) (l (.stateWordRead 0)) = (.badState, 0x80) ∧
      faultOf (.docketReadDone 7 ⟨0, .error⟩) (l (.docketRead 0)) = (.linkRead, 0x80) ∧
      faultOf (.claimDone 7 ⟨0, .error⟩) (l (.claim 0 1 2)) = (.claimFailed, 0x80) ∧
      faultOf (.claimDone 7 ⟨0, .ok 0⟩) (l (.claim 0 1 2)) = (.badState, 0x80) ∧
      faultOf (.resultSectionWriteDone 7 ⟨0, .error⟩) (reporting (.resultWrite 0x120 [])) = (.resultWrite, 0x80) ∧
      faultOf (.stateWordWriteDone 7 ⟨0, .error⟩) (reporting (.stateWordWrite 0x80 4)) = (.resultWrite, 0x80) := by
  decide

/-- The engine state after lane 7's device-half write of an occasion has failed. -/
def engineAfterFailure (occasion : RecordOccasion) (c : Instr) : EngineState :=
  (after (exec c (lane7 (laneIn .checking (some (.recordWrite occasion 0x13C0 [])))))).engine

/-- FailedRecordWriteHalts: the five occasions. -/
theorem test_FailedRecordWriteHalts_meets :
    engineAfterFailure .start (.startRecordWriteDone 7 ⟨0, .error⟩) = .halted ∧
      engineAfterFailure .skip (.skipWriteDone 7 ⟨0, .error⟩) = .halted ∧
      engineAfterFailure .report (.reportRecordWriteDone 7 ⟨0, .error⟩) = .halted ∧
      engineAfterFailure .stop (.stopRecordWriteDone 7 ⟨0, .error⟩) = .halted ∧
      engineAfterFailure .fault (.faultRecordWriteDone 7 ⟨0, .error⟩) = .halted := by decide

/-- AbandonedResultsAreDiscarded: a halt and an engine reset each begin an epoch; the host half of an abandoned start
sequence that returns to the next one, and a claim's end that meets it, are discarded. -/
theorem test_AbandonedResultsAreDiscarded_meets :
    let l := laneIn .checking (some (.hostHalfRead 0x1380))
    let s := { lane7 l with epoch := 2 }
    (after (exec (.engineReset 0) (lane7 l).halt)).epoch = 2 ∧ (0 : Nat) ≠ s.epoch ∧
      (after (exec (.hostHalfReadDone 7 ⟨0, .ok (zeros 64)⟩) s)).lanes[(7 : LaneNo)] = l ∧
      (after (exec (.hostHalfReadDone 7 ⟨2, .ok (zeros 64)⟩) s)).lanes[(7 : LaneNo)].condition = .running ∧
      (after (exec (.claimDone 7 ⟨2, .ok 1⟩) s)).lanes[(7 : LaneNo)] = l ∧
      s.lanes[(7 : LaneNo)].storeRequest = none ∧ s.units[(1 : UnitNo)].attempt = none := by decide

/-! ### Witnesses: the profile store, the dispatcher and admission -/

/-- An update that writes 30 to the field of one index. -/
def fieldTo30 (i : Fin 16) : Update :=
  { mask := 1 <<< i.val, values := Vector.replicate 16 30 }

/-- A stage entry for profile 2 that waits for a lane. -/
def entryFor (lane : LaneNo) : StageEntry :=
  { profile := 2, lane := lane, update := fieldTo30 3 }

/-- Lane 7 with a request to a store whose stage list holds the given entries. -/
def asksStore (r : StoreRequest) (entries : List StageEntry) : State :=
  { lane7 { laneIn .active none with storeRequest := some r } with
    store := { ProfileStore.reset with stageList := entries } }

/-- What lane 7 reports: the refusal code, the generation and the count of a STAGE. -/
def stageReport (s : State) : Option (RefusalCode × List Byte) :=
  s.lanes[(7 : LaneNo)].report.map fun r => (r.refusal, (r.result.drop 3).take 3)

/-- StageRequestsAreTakenWhole: NOW; an append to 3 entries and to 4; a cancel that finds two. -/
theorem test_StageRequestsAreTakenWhole_meets :
    let three := List.replicate 3 (entryFor 0)
    (asksStore (.now 2 (fieldTo30 3)) []).lanes[(7 : LaneNo)].storeRequest = some (.now 2 (fieldTo30 3)) ∧
      stageReport (after (exec (.stageNow 7) (asksStore (.now 2 (fieldTo30 3)) []))) = some (.none, [1, 0, 0]) ∧
      stageReport (after (exec (.stageAtOpen 7) (asksStore (.atOpen (entryFor 7)) three))) =
        some (.none, [0, 0, 4]) ∧
      stageReport (after (exec (.stageAtOpen 7) (asksStore (.atOpen (entryFor 7)) (entryFor 1 :: three)))) =
        some (.slotsFull, [0, 0, 0]) ∧
      stageReport (after (exec (.stageCancel 7) (asksStore (.cancel 2) [entryFor 0, entryFor 1]))) =
        some (.none, [0, 0, 2]) := by decide

/-- OpenAppliesTheLanesEntriesInOrder: two entries for lane 7 around one for lane 0. -/
theorem test_OpenAppliesTheLanesEntriesInOrder_meets :
    let s := asksStore (.openBundle 9) [entryFor 7, entryFor 0, entryFor 7]
    let t := after (exec (.openBundle 7) s)
    s.lanes[(7 : LaneNo)].storeRequest = some (.openBundle 9) ∧ (entryFor 7).lane = 7 ∧ (entryFor 0).lane ≠ 7 ∧
      t.store.stageList = [entryFor 0] ∧ t.store.profiles[(2 : Fin 16)].generation = 2 ∧
      t.store.profiles[(2 : Fin 16)].fields.tCeil = 40 ∧
      (t.lanes[(7 : LaneNo)].report.map fun r => r.result.take 1) = some [2] := by decide

/-- ApplicationClampsThenOrdersThePairs: the defaults are valid. -/
theorem test_ApplicationClampsThenOrdersThePairs_meets : Profile.reset.Valid := by decide

/-- GrantFollowsTheRanking: no grant without a request; unit 1 in FIXED mode and the lane after the pointer in
ROTATING mode, where the pointer's own lane ranks last. -/
theorem test_GrantFollowsTheRanking_meets :
    let fixed := { asking .fixed [3, 7] with units := (State.reset.units).set 0 (.admitting 0 [] (some 0)) }
    let rotating := { asking .rotating [3, 7] with rotation := 3 }
    (∀ n : LaneNo, running.requests[n] = false) ∧ fixed.units[(1 : UnitNo)] = .idle ∧
      fixed.units[(0 : UnitNo)] ≠ .idle ∧ fixed.requests[(3 : LaneNo)] = true ∧
      (∀ m : LaneNo, fixed.requests[m] = true → (3 : LaneNo).val ≤ m.val) ∧
      rotating.requests[(7 : LaneNo)] = true ∧
      (∀ m : LaneNo, rotating.requests[m] = true → (7 + 7 - 3) % 8 ≤ (m.val + 7 - 3) % 8) ∧
      fixed.winner = some 3 ∧ rotating.winner = some 7 := by decide

/-- DispatchLeavesNoUnitIdleWhileLanesAsk: no grant without a request, one grant and then none, two grants at once,
and a lane that goes on asking; nine rounds suffice when all eight lanes are refused. -/
theorem test_DispatchLeavesNoUnitIdleWhileLanesAsk_meets :
    let lanes := Vector.replicate 8 { Lane.reset with copy := some (zeros 24 ++ [16]) }
    let s := { asking .fixed [0, 1, 2, 3, 4, 5, 6, 7] with lanes := lanes }
    let full := { asking .fixed [1, 4, 6] with lanes := Vector.replicate 8 { Lane.reset with copy := some (itemCopy 850) } }
    running.grant = none ∧ ((asking .fixed [3]).grant.map fun s₁ => s₁.grant.isNone) = some true ∧
      ((asking .fixed [3, 7]).grant.map fun s₁ => s₁.grant.isSome) = some true ∧
      s.engine = .running ∧ (∀ n : LaneNo, s.dispatch.requests[n] = false) ∧
      (∀ u : UnitNo, s.dispatch.units[u] = .idle) ∧ full.dispatch.requests[(6 : LaneNo)] = true ∧
      full.dispatch.units[(1 : UnitNo)].lane? = some 4 := by decide

/-- SnapshotEntersFront: a unit that waits for its snapshot. -/
theorem test_SnapshotEntersFront_meets :
    let s := { running with units := State.reset.units.set 1 (.admitting 7 [9] (some 15)) }
    s.units[(1 : UnitNo)] = .admitting 7 [9] (some 15) := by decide

/-! ### Witnesses: attempts -/

/-- The item of the small side: profile 0, with the rear as the copy says. -/
def smallItem (copy : List Byte) : ItemContext :=
  { lane := 7, copy := copy, profile := 0, snapshot := { fields := smallProfile, generation := 1 } }

/-- A copy whose bytes 0x30 to 0x4F describe the small side; the second operand is "rear present". -/
def smallCopy (rear : Nat) : List Byte :=
  zeros 25 ++ leBytes 1 rear ++ zeros 14 ++ leBytes 4 100 ++ zeros 4 ++ zeros 8 ++ leBytes 4 8 ++ leBytes 2 8
    ++ leBytes 2 2 ++ leBytes 2 240 ++ leBytes 1 8 ++ zeros 45

/-- An attempt at the small side whose one read in flight is source row 0. -/
def readingRow (row : Nat) : SideContext :=
  { freshAttempt smallSide smallProfile 0 64 0 with
    nextRow := row, readRow := row + 1
    reads := [{ row := row, off := 0, len := 8, address := 0, bytes := none }] }

/-- SourceRowIsScaledBinarisedAndCoded: source row 0, which completes no output row; on a side of two output rows
the first of them; the last row, whose eight bits fill a budget of 1; and a budget passed inside the code, and
one passed at the padding. -/
theorem test_SourceRowIsScaledBinarisedAndCoded_meets :
    let row : List Byte := [210, 214, 90, 70, 208, 212, 206, 200]
    let takes (c : SideContext) := c.takeRow smallSide smallProfile row
    let oneBit : Packer := { Packer.fresh with partialBits := [true] }
    (readingRow 0).nextRow + 1 ≠ groupStart 2 1 1 ∧ (takes (readingRow 0)).phase = .fetching ∧
      (takes (readingRow 0)).accumulators.map (·.sum) = [424, 160, 420, 406] ∧
      (takes { readingRow 0 with ho := 2 }).outRow = 1 ∧ (takes { readingRow 0 with ho := 2 }).phase = .fetching ∧
      (takes { readingRow 1 with budget := 1 }).phase = .completed ∧
      (takes { readingRow 1 with budget := 0 }).phase = .oversize ∧
      (takes { readingRow 1 with budget := 1, packer := oneBit }).phase = .oversize ∧
      (oneBit.append 1 (rowCode 1 none [false, true, false, false])).overBudget = false := by decide

/-- The attempt of the small side with row 1 returned before row 0, whose two halves are asked for apart and of
which the second has returned too. -/
def outOfOrder : SideContext :=
  { freshAttempt smallSide smallProfile 0 64 0 with
    readRow := 2
    reads :=
      [{ row := 0, off := 0, len := 4, address := 0, bytes := none },
        { row := 0, off := 4, len := 4, address := 4, bytes := some [208, 212, 206, 200] },
        { row := 1, off := 0, len := 8, address := 8, bytes := some [206, 210, 80, 60, 204, 210, 30, 40] }] }

/-- SourceRowIsScaledBinarisedAndCoded: the first half of row 0 returns last and both rows are taken, in order; and a
half of row 0 that returns first completes no row. -/
theorem test_SourceRowIsScaledBinarisedAndCoded_meets_out_of_order :
    let u : ReductionUnit := .front (smallItem (smallCopy 0)) outOfOrder
    let done := outOfOrder.readEnded smallSide smallProfile 0 0 (.ok [210, 214, 90, 70])
    let early := { outOfOrder with reads := outOfOrder.reads.map fun (r : SourceRead) => { r with bytes := none } }
    (u.attempt.map fun x => (x.2.1, x.2.2)) = some (smallSide, outOfOrder) ∧ outOfOrder.phase = .fetching ∧
      smallSide.usedBytes = 8 ∧ done.phase = .completed ∧ done.packer.waiting = [0xFA, 0x80] ∧ done.reads = [] ∧
      (early.readEnded smallSide smallProfile 0 4 (.ok [208, 212, 206, 200])).nextRow = 0 ∧
      ((early.readEnded smallSide smallProfile 0 4 (.ok [208, 212, 206, 200])).reads.map (·.bytes)) =
        [none, some [208, 212, 206, 200], none] := by decide

/-- AbandonedResultsAreDiscarded: a read that has returned already, bytes of another number than asked for, and a
write the attempt has not issued. -/
theorem test_AbandonedResultsAreDiscarded_meets_on_attempts :
    outOfOrder.accepts 1 0 (.ok (zeros 8)) = false ∧ outOfOrder.accepts 0 0 (.ok (zeros 3)) = false ∧
      outOfOrder.accepts 0 0 .error = true ∧ outOfOrder.acceptsWrite 0 = false := by decide

/-- SourceRowIsScaledBinarisedAndCoded: the hypotheses on the reads, for the two rows taken at once. -/
theorem test_SourceRowIsScaledBinarisedAndCoded_meets_reads :
    let r : SourceRead := { row := 0, off := 0, len := 4, address := 0, bytes := none }
    let returned := outOfOrder.reads.map fun x => if x = r then { x with bytes := some [210, 214, 90, 70] } else x
    let rows := [returned.take 2, returned.drop 2]
    r ∈ outOfOrder.reads ∧ (∀ x ∈ outOfOrder.reads, x.row = r.row → x.off = r.off → x = r) ∧
      returned = rows.flatten ++ [] ∧
      (∀ i : Fin 2, (∀ x ∈ rows[i], x.row = outOfOrder.nextRow + i.val ∧ x.bytes ≠ none) ∧
        (rows[i].flatMap fun x => x.bytes.getD []).length = smallSide.usedBytes) := by decide

/-- An attempt at the end of its requests but for one write, in a phase. -/
def lastWrite (phase : AttemptPhase) (step : Nat) : SideContext :=
  { smallAttempt with
    phase := phase, step := step, packer := { smallAttempt.packer with waiting := [] }
    writes := [{ index := 0, address := 0, bytes := [0xFA, 0x80] }] }

/-- CompletedAttemptEndsItsSideCoded: no rear, a rear with room, and a rear without (a capacity at the rear's
offset). -/
theorem test_CompletedAttemptEndsItsSideCoded_meets :
    let room (c : Nat) := rearBudget smallProfile c (rearOffset (lastWrite .completed 0).packer.byteCount)
    (lastWrite .completed 0).reads = [] ∧ (lastWrite .completed 0).packer.waiting = [] ∧
      itemRearPresent (smallItem (smallCopy 0)).copy = false ∧ itemRearPresent (smallItem (smallCopy 255)).copy = true ∧
      itemCapacity (smallItem (smallCopy 255)).copy = 100 ∧ room 8 = 0 ∧ room 9 = 1 ∧ room 100 = 92 := by decide

/-- CompletedAttemptEndsItsSideCoded: a write that is not the last request, of an attempt that fetches, and of a
completed one with another write in flight or a byte that waits. -/
theorem test_CompletedAttemptEndsItsSideCoded_meets_before_the_last :
    let w : OutputWrite := { index := 0, address := 0, bytes := [0xFA] }
    let two : SideContext := { lastWrite .completed 0 with writes := [w, { w with index := 1, address := 1 }] }
    let fetching : SideContext := { readingRow 1 with writes := [w] }
    w ∈ two.writes ∧ (two.writes.filter fun x => x.index ≠ w.index) ≠ [] ∧
      (two.writeEnded 0 .ok).writes = [{ w with index := 1, address := 1 }] ∧ (two.writeEnded 0 .ok).phase = .completed ∧
      w ∈ fetching.writes ∧ fetching.phase = .fetching ∧ (fetching.writeEnded 0 .ok).writes = [] ∧
      (fetching.writeEnded 0 .ok).packer = fetching.packer ∧
      ({ two with writes := [w], packer := { two.packer with waiting := [0x80] } }).packer.waiting ≠ [] := by decide

/-- OversizeAttemptFallsBackOrEnds: step 1 below the limit of 2, and step 2 at it; the last write, and a last read
that ends with its bytes or in error. -/
theorem test_OversizeAttemptFallsBackOrEnds_meets :
    let reading : SideContext := { readingRow 0 with phase := .oversize }
    (lastWrite .oversize 1).step < smallProfile.fallbackLimit ∧
      smallProfile.fallbackLimit ≤ (lastWrite .oversize 2).step ∧ (lastWrite .oversize 2).reads = [] ∧
      (lastWrite .oversize 2).packer.waiting = [] ∧ 0 < itemCapacity (smallCopy 1) ∧ 0 < smallProfile.bytesHigh ∧
      reading.writes = [] ∧ reading.packer.waiting = [] ∧ (reading.reads.map (·.bytes)) = [none] ∧
      (reading.readEnded smallSide smallProfile 0 0 .error).ending smallProfile = .restart ∧
      (reading.readEnded smallSide smallProfile 0 0 (.ok (zeros 8))).quiet = true := by decide

/-- FirstErrorEndsTheSide: a read in flight with and without writes, and a last write after an error and before
one. -/
theorem test_FirstErrorEndsTheSide_meets :
    (readingRow 0).phase = .fetching ∧ (readingRow 0).writes = [] ∧
      ({ readingRow 0 with writes := (lastWrite .fetching 0).writes }).writes ≠ [] ∧
      (lastWrite (.failed .readError) 0).phase = .failed .readError ∧
      ((readingRow 0).readEnded smallSide smallProfile 0 0 .error).phase = .failed .readError ∧
      ((lastWrite .oversize 0).writeEnded 0 .error).phase = .failed .writeError ∧
      ((lastWrite (.failed .readError) 0).writeEnded 0 .error).phase = .failed .readError := by decide

/-- The small side's attempt with both reads of row 0 in flight, row 1 returned, a write in flight and a byte that
waits. -/
def midway : SideContext :=
  { outOfOrder with
    reads := outOfOrder.reads.map fun (r : SourceRead) => if r.row = 0 then { r with bytes := none } else r
    writes := [{ index := 0, address := 0, bytes := [0xFA] }]
    packer := { byteCount := 2, partialBits := [true], waiting := [0x80], overBudget := false } }

/-- FirstErrorEndsTheSide: a read error and a write error while other requests are in flight and a row has returned;
and then a request that ends in error and is not the last. -/
theorem test_FirstErrorEndsTheSide_meets_midway :
    let r : SourceRead := { row := 0, off := 0, len := 4, address := 0, bytes := none }
    let failed := midway.readEnded smallSide smallProfile 0 0 .error
    r ∈ midway.reads ∧ (∀ x ∈ midway.reads, x.row = r.row → x.off = r.off → x = r) ∧
      (failed.reads.map fun x => (x.row, x.off)) = [(0, 4)] ∧ failed.packer.waiting = [] ∧
      failed.packer.partialBits = [] ∧ failed.writes = midway.writes ∧
      (midway.writeEnded 0 .error).phase = .failed .writeError ∧
      ((midway.writeEnded 0 .error).reads.map fun x => (x.row, x.off)) = [(0, 0), (0, 4)] ∧
      (failed.writeEnded 0 .error).phase = .failed .readError ∧ (failed.writeEnded 0 .error).quiet = false ∧
      (failed.readEnded smallSide smallProfile 0 4 .error).phase = .failed .readError := by decide

/-- OversizeAttemptFallsBackOrEnds: a read that ends in error while another is in flight. -/
theorem test_OversizeAttemptFallsBackOrEnds_meets_before_the_last :
    let sd : SideContext :=
      { midway with phase := .oversize, reads := midway.reads.take 2, packer := { midway.packer with waiting := [] } }
    sd.packer.waiting = [] ∧ sd.accepts 0 0 .error = true ∧
      sd.readEnded smallSide smallProfile 0 0 .error = { sd with reads := midway.reads.take 2 |>.drop 1 } ∧
      (∃ x ∈ sd.reads.drop 1, x.bytes = none) := by decide

/-! ### Witnesses: the arithmetic, the stream and the invariants -/

/-- OutputGeometry: the ends of the ranges. -/
theorem test_OutputGeometry_meets :
    Profile.reset.Valid ∧ ({ Profile.reset with outDpi := 50 }).Valid ∧ 64 ≤ 64 ∧ 4096 ≤ 4096 ∧
      outputSize 64 25 1200 = 16 ∧ outputSize 4096 600 100 = 2048 := by decide

/-- GroupsTileTheSource: a whole grid, a quarter grid, and widths of 2 and 1. -/
theorem test_GroupsTileTheSource_meets :
    0 < 16 ∧ 16 ≤ 64 ∧ 64 ≤ 4 * 16 ∧ groupStart 64 16 1 = 4 ∧ 5 ≤ 6 ∧ 6 ≤ 4 * 5 ∧ groupStart 6 5 1 = 2 ∧
      groupStart 6 5 2 = 3 := by decide

/-- GreyPixelsToColours: a half rounds up, a pixel at its threshold is white, and a tracker at 0 and at 255. -/
theorem test_GreyPixelsToColours_meets :
    ({ sum := 834, count := 4 } : Accumulator).average = 209 ∧ 834 ≤ 255 * 4 ∧ Profile.reset.Valid ∧
      threshold Profile.reset 255 = 191 ∧ isBlack Profile.reset 255 191 = false ∧ isBlack Profile.reset 255 190 = true ∧
      nextTracker Profile.reset 0 255 = 31 ∧ nextTracker Profile.reset 255 207 = 249 ∧
      nextTracker Profile.reset 255 206 = 255 ∧
      (binariseRow Profile.reset [255, 255] [4, 4] [190, 191]).inkCounters = [5, 4] ∧
      (accumulateFrom 6 5 0 [1, 2, 4, 8, 16, 32] (freshAccumulators 5)).map (fun a => (a.sum, a.count)) =
        [(3, 2), (4, 1), (8, 1), (16, 1), (32, 1)] := by decide

/-- MeasuresAndFlags: the completed small attempt, whose ink per-mille is 500. -/
theorem test_MeasuresAndFlags_meets :
    smallProfile.Valid ∧ smallAttempt.Valid smallProfile ∧ 0 < smallAttempt.wo ∧ 0 < smallAttempt.ho ∧
      (∀ c ∈ smallAttempt.inkCounters, c ≤ smallAttempt.ho) ∧ (codedResult smallProfile smallAttempt).ink = 500 ∧
      (codedResult smallProfile smallAttempt).flags.inkHigh = true ∧
      (codedResult smallProfile smallAttempt).streaks = 2 := by decide

/-- StreamDecodesIntoItsRows: the rows of section 6.8 have one width; an all-white row after an all-white row, a
repeated row, and a row that begins black. -/
theorem test_StreamDecodesIntoItsRows_meets :
    (∀ row ∈ fiveRows, row.length = 16) ∧ rowCode 1 (some [false, false]) [false, false] = [false] ∧
      rowCode 1 (some [true, false]) [true, false] = [true, false] ∧
      rowCode 1 (some [false, false]) [true, false] = [true, true] ++ valueCode 1 0 ++ valueCode 1 0 ++ valueCode 1 0 ∧
      expandRuns false [0, 1, 1] = [true, false] := by decide

/-- PackerFillsBytesWithinTheBudget: exactly the budget's bits, and one more. -/
theorem test_PackerFillsBytesWithinTheBudget_meets :
    ((Packer.fresh.append 1 (List.replicate 8 true)).finish 1).waiting = [0xFF] ∧
      ((Packer.fresh.append 1 (List.replicate 9 true)).finish 1).overBudget = true ∧
      ((Packer.fresh.append 0 []).finish 0).overBudget = false := by decide

/-- RecordsHoldTheirFields: the result sections of a DONE CLOSE, OPEN and STAGE of sections 11.9.3 and 11.9.4. -/
theorem test_RecordsHoldTheirFields_meets :
    let done (result : List Byte) := resultSection 0xA1B2C3D4 { refusal := .none, result := result, change := .none }
    let b : Bundle :=
      { isOpen := true, id := 9, itemsDone := 1, itemsRefused := 2, sidesCoded := 3, bytes := 0x10000, flagged := 5
        oversize := 6, errors := 7 }
    (done (closeResultBytes b)).take 40 =
        [0xD4, 0xC3, 0xB2, 0xA1, 0, 0, 0, 0, 9, 0, 0, 0, 1, 0, 0, 0, 2, 0, 0, 0, 3, 0, 0, 0, 0, 0, 1, 0, 5, 0, 0, 0,
          6, 0, 0, 0, 7, 0, 0, 0] ∧
      ((done (openResultBytes 4)).drop 4).take 3 = [0, 4, 0] ∧
      ((done (stageResultBytes 0x1234 3)).drop 4).take 8 = [0, 0, 0, 0, 0x34, 0x12, 3, 0] ∧
      (done (stageResultBytes 0x1234 3)).length = 96 := by decide

/-- RecordsHoldTheirFields: a side result's bytes and the fields of the docket of section 3.11. -/
theorem test_RecordsHoldTheirFields_meets_on_item :
    let flags : SideFlags := { SideFlags.none with inkHigh := true, fallback := true }
    sideResultBytes { uncodedResult .oversize 16 2 600 280 with flags := flags } =
        [2, 2, 0x82, 0, 16, 0, 0, 0, 0x58, 2, 0x18, 1] ++ zeros 20 ∧
      itemOutputAddress (itemCopy 850) = 0x4020000000 ∧ itemCapacity (itemCopy 850) = 20000 ∧
      (frontDescriptor (itemCopy 850)).stride = 850 ∧ (rearDescriptor (itemCopy 850)).source = 0x20000 ∧
      (rearDescriptor (itemCopy 850)).depth = 8 ∧ docketProfile (itemCopy 850) = 7 ∧
      docketSequence (itemCopy 850) = 0xA1B2C3D4 := by decide

/-- OnlyTheseCommandsChange: a failed stop write halts, a START from IDLE sets the cursor, and STATUS clears the
flag. -/
theorem test_OnlyTheseCommandsChange_meets :
    (Instr.stopRecordWriteDone 7 ⟨0, .error⟩).wellFormed = true ∧
      engineAfterFailure .stop (.stopRecordWriteDone 7 ⟨0, .error⟩) = .halted ∧
      (after (exec (.start 7) (lane7 { laneIn .idle none with cursor := 0x40 }))).lanes[(7 : LaneNo)].cursor = 0 ∧
      (after (exec (.stageNow 7) (asksStore (.now 2 (fieldTo30 3)) []))).store ≠ ProfileStore.reset := by decide

/-- The invariants: the reset state meets them all, and so do a lane in HOLDING with its request and a lane that
reports. -/
theorem test_invariants_meets :
    State.reset.store.Valid ∧ State.reset.notice.Valid ∧ State.reset.AreaAligned ∧
      (∀ n : LaneNo, State.reset.lanes[n].AddressesAligned) ∧ State.reset.pending = [] := by decide

/-- Lane 0's item on unit 0, unit 1 free, and lane 7 in HOLDING with its request in the set. -/
def sharing : State :=
  let held := { laneIn .active none with holds := true, copy := some [] }
  { running with
    lanes := ((Vector.replicate 8 Lane.reset).set 0 held).set 7 { held with state := .holding }
    units := State.reset.units.set 0 (.admitting 0 [] (some 0)), requests := State.reset.requests.set 7 true }

/-- EveryStepKeepsTheControlValid: a bound unit, a lane that asks for one, and the halted engine. -/
theorem test_EveryStepKeepsTheControlValid_meets : sharing.ControlValid ∧ sharing.halt.ControlValid :=
  have lanes (s : State) (h₁ : ∀ n : LaneNo, s.lanes[n].ShapeValid) (h₂ : ∀ n : LaneNo, s.lanes[n].FlagsValid)
      (h₃ : ∀ n : LaneNo, s.lanes[n].TimerValid) (h₄ : s.OwnershipValid) (h₅ : s.EngineValid) : s.ControlValid :=
    ⟨fun n => ⟨h₁ n, h₂ n, h₃ n⟩, h₄, h₅⟩
  ⟨lanes _ (by decide) (by decide) (by decide) (by decide) (by decide),
    lanes _ (by decide) (by decide) (by decide) (by decide) (by decide)⟩

/-- The front of section 3.11 with half of source row 0 asked for, and one byte of 3 on its way to host memory. -/
def requesting : SideContext :=
  { freshAttempt (frontDescriptor (itemCopy 850)) Profile.reset 0 20000 0 with
    readOff := 425
    reads := [{ row := 0, off := 0, len := 425, address := 0x10000, bytes := none }]
    writes := [{ index := 0, address := 0x4020000000, bytes := [0xFA] }]
    packer := { byteCount := 3, partialBits := [], waiting := [0x80, 0x81], overBudget := false } }

/-- EveryStepKeepsNoticesValidAndAddressesAligned: a unit in FRONT with a read and a write in flight. -/
theorem test_EveryStepKeepsNoticesValidAndAddressesAligned_meets :
    (ReductionUnit.front { smallItem (itemCopy 850) with profile := 7 } requesting).RequestsValid :=
  ⟨by decide, by decide,
    { nextByte := by decide
      reads := by
        intro r h
        obtain rfl : r = { row := 0, off := 0, len := 425, address := 0x10000, bytes := none } := by
          simpa [requesting] using h
        exact ⟨by decide, by decide, by decide, by decide, nofun, by decide⟩
      readOrder := by decide
      writes := by decide
      writeOrder := by decide
      budget := by decide }⟩

/-- EveryStepKeepsStoreAndUnitsValid: a unit in FRONT with the small side. -/
theorem test_EveryStepKeepsStoreAndUnitsValid_meets :
    (ReductionUnit.front (smallItem []) smallAttempt).Valid := by
  show smallProfile.Valid ∧ smallAttempt.Valid smallProfile
  decide

end Sys2Proof.Tests
end

section
/-! The admission checks: each check over the present sides in arithmetic terms, what admission answers after the
first, and the order in which they decide (R46). -/

namespace Sys2Proof.Machine

/-! ### What a check over the sides finds -/

theorem presentSides_eq_cons (copy : List Byte) :
    presentSides copy =
      frontDescriptor copy :: if itemRearPresent copy then [rearDescriptor copy] else [] := by
  unfold presentSides
  split <;> rfl

theorem any_badGeometry_iff (sides : List SideDescriptor) :
    sides.any (·.badGeometry) = true ↔ ∃ d ∈ sides, d.ws < 64 ∨ 4096 < d.ws ∨ d.hs < 64 ∨ 4096 < d.hs := by
  simp only [List.any_eq_true, SideDescriptor.badGeometry, decide_eq_true_eq]

theorem any_badResolution_iff (sides : List SideDescriptor) :
    sides.any (·.badResolution) = true ↔ ∃ d ∈ sides, d.dsrc < 100 ∨ 1200 < d.dsrc := by
  simp only [List.any_eq_true, SideDescriptor.badResolution, decide_eq_true_eq]

theorem any_badDepth_iff (sides : List SideDescriptor) :
    sides.any (·.badDepth) = true ↔ ∃ d ∈ sides, d.depth ≠ 4 ∧ d.depth ≠ 8 := by
  simp only [List.any_eq_true, SideDescriptor.badDepth, decide_eq_true_eq]

/-- The used bytes of a source row are its bits in whole bytes (R62). -/
theorem SideDescriptor.usedBytes_eq (d : SideDescriptor) : d.usedBytes = (d.ws * d.depth + 7) / 8 := rfl

theorem any_badStride_iff (sides : List SideDescriptor) :
    sides.any (·.badStride) = true ↔
      ∃ d ∈ sides, d.stride < (d.ws * d.depth + 7) / 8 ∨ 1048576 < d.stride := by
  simp only [List.any_eq_true, SideDescriptor.badStride, decide_eq_true_eq, ← SideDescriptor.usedBytes_eq]

/-! ### The profile check, and the five checks after it -/

theorem admission_of_profile_above {copy : List Byte} (h : 15 < docketProfile copy) :
    admission copy = .refused .profile :=
  dif_neg (by omega)

theorem admission_of_profile_below {copy : List Byte} (h : docketProfile copy < 16) :
    admission copy =
      if itemOutputAddress copy = 0 ∨ itemCapacity copy < 64 then .refused .output
      else if (presentSides copy).any (·.badGeometry) then .refused .geometry
      else if (presentSides copy).any (·.badResolution) then .refused .resolution
      else if (presentSides copy).any (·.badDepth) then .refused .depth
      else if (presentSides copy).any (·.badStride) then .refused .stride
      else .admitted ⟨docketProfile copy, h⟩ :=
  dif_pos h

/-! ### The obligation -/

/-- Settles O41, by cases on the check that decides: it takes its branch, and each check before it is passed over. -/
theorem admissionChecksInOrder : Obligations.AdmissionChecksInOrder := by
  unfold Obligations.AdmissionChecksInOrder
  intro copy sides fails code
  have past (h : ¬ fails 0) := admission_of_profile_below (Nat.lt_succ_of_le (Nat.not_lt.mp h))
  simp only [presentSides_eq_cons, any_badGeometry_iff, any_badResolution_iff, any_badDepth_iff,
    any_badStride_iff] at past
  refine ⟨?_, fun passes => ⟨⟨docketProfile copy, Nat.lt_succ_of_le (Nat.not_lt.mp (passes 0))⟩, rfl, ?_⟩⟩
  · rintro i ⟨hfail, hpass⟩
    match i with
    | 0 => exact admission_of_profile_above hfail
    | 1 => rw [past (hpass 0 (by decide)), if_pos hfail]
    | 2 => rw [past (hpass 0 (by decide)), if_neg (hpass 1 (by decide)), if_pos hfail]
    | 3 =>
      rw [past (hpass 0 (by decide)), if_neg (hpass 1 (by decide)), if_neg (hpass 2 (by decide)), if_pos hfail]
    | 4 =>
      rw [past (hpass 0 (by decide)), if_neg (hpass 1 (by decide)), if_neg (hpass 2 (by decide)),
        if_neg (hpass 3 (by decide)), if_pos hfail]
    | 5 =>
      rw [past (hpass 0 (by decide)), if_neg (hpass 1 (by decide)), if_neg (hpass 2 (by decide)),
        if_neg (hpass 3 (by decide)), if_neg (hpass 4 (by decide)), if_pos hfail]
  · rw [past (passes 0), if_neg (passes 1), if_neg (passes 2), if_neg (passes 3), if_neg (passes 4),
      if_neg (passes 5)]

end Sys2Proof.Machine
end

section
/-! The output geometry: the bounds and the order of the output resolution over the steps, and of an output
dimension over the resolutions (R70, R71). -/

namespace Sys2Proof.Machine

/-! ### The output resolution of a step -/

theorem outputDpi_antitone (outDpi : Nat) : Antitone (outputDpi outDpi) := fun _ _ h =>
  Nat.div_le_div_right (Nat.mul_le_mul_left _ (Nat.sub_le_sub_left h 4))

theorem outputDpi_le (outDpi step : Nat) : outputDpi outDpi step ≤ outDpi :=
  calc outputDpi outDpi step
    _ ≤ outputDpi outDpi 0 := outputDpi_antitone outDpi (Nat.zero_le step)
    _ = outDpi := Nat.mul_div_cancel outDpi (by decide)

/-- The fallback ladder ends at step 2, which keeps half the profile's resolution (R70). -/
theorem half_le_outputDpi {step : Nat} (outDpi : Nat) (h : step ≤ 2) : outDpi / 2 ≤ outputDpi outDpi step :=
  calc outDpi / 2
    _ = outputDpi outDpi 2 := (Nat.mul_div_mul_right outDpi 2 (by decide)).symm
    _ ≤ outputDpi outDpi step := outputDpi_antitone outDpi h

/-! ### An output dimension -/

theorem outputSize_eq (source dout dsrc : Nat) :
    outputSize source dout dsrc =
      max (min (source * dout / dsrc) (min source 2048)) ((source + 3) / 4) := by
  rw [outputSize, min_assoc]
  rfl

theorem quarter_le_outputSize (source dout dsrc : Nat) : (source + 3) / 4 ≤ outputSize source dout dsrc :=
  le_max_right _ _

/-- Stage 3 never undoes stage 2: a quarter of the source, rounded up, lies below both of its bounds (R71). -/
theorem outputSize_le {source : Nat} (dout dsrc : Nat) (h : source ≤ 4096) :
    outputSize source dout dsrc ≤ min source 2048 := by
  have quarter : (source + 3) / 4 ≤ min source 2048 := by omega
  rw [outputSize_eq]
  exact max_le (min_le_right _ _) quarter

theorem sixteen_le_outputSize {source : Nat} (dout dsrc : Nat) (h : 64 ≤ source) :
    16 ≤ outputSize source dout dsrc := by
  have quarter := quarter_le_outputSize source dout dsrc
  omega

theorem outputSize_monotone (source dsrc : Nat) : Monotone (outputSize source · dsrc) := fun _ _ h =>
  have stage1 := Nat.div_le_div_right (c := dsrc) (Nat.mul_le_mul_left source h)
  max_le_max_right _ (min_le_min_right _ (min_le_min_right _ stage1))

/-! ### The obligation -/

/-- Settles O48: the width and the height are one function of the side and the resolution, monotone in the
resolution, which falls from step to step. -/
theorem outputGeometry : Obligations.OutputGeometry := by
  unfold Obligations.OutputGeometry
  intro d p s hp hs hws hws' hhs hhs' _ _ dout size
  obtain ⟨⟨hdpi, hdpi'⟩, -⟩ := hp
  have falls : outputDpi p.outDpi (s + 1) ≤ outputDpi p.outDpi s := outputDpi_antitone p.outDpi s.le_succ
  have low : 25 ≤ dout s := le_trans (by omega) (half_le_outputDpi p.outDpi hs)
  have high : dout s ≤ 600 := (outputDpi_le p.outDpi s).trans hdpi'
  exact ⟨outputSize_eq .., outputSize_eq .., low, high, falls,
    quarter_le_outputSize .., outputSize_le _ _ hws', sixteen_le_outputSize _ _ hws,
    quarter_le_outputSize .., outputSize_le _ _ hhs', sixteen_le_outputSize _ _ hhs,
    outputSize_monotone d.ws d.dsrc falls, outputSize_monotone d.hs d.dsrc falls⟩

end Sys2Proof.Machine
end

section
/-! The value code: the bits of a number most significant first, the counting of leading zeros, and the code of a
value with its decoding (R98, section 6.6). -/

namespace Sys2Proof.Machine

/-! ### The bits of a number, most significant first -/

@[simp] theorem length_msbBits (n m : Nat) : (msbBits n m).length = n := by
  induction n with
  | zero => rfl
  | succ n ih => rw [msbBits, List.length_cons, ih]

theorem getElem?_msbBits (n m : Nat) {i : Nat} (h : i < n) :
    (msbBits n m)[i]? = some (m.testBit (n - 1 - i)) := by
  induction n generalizing i with
  | zero => exact absurd h (Nat.not_lt_zero i)
  | succ n ih =>
    cases i with
    | zero => rfl
    | succ i =>
      have lower : n + 1 - 1 - (i + 1) = n - 1 - i := by omega
      rw [msbBits, List.getElem?_cons_succ, ih (Nat.lt_of_succ_lt_succ h), lower]

/-- The number `acc` extended by bits read after it, most significant first: how the decoder forms m. -/
def extendByBits (acc : Nat) (bits : List Bool) : Nat :=
  bits.foldl (fun acc b => 2 * acc + b.toNat) acc

theorem extendByBits_msbBits (acc n m : Nat) :
    extendByBits acc (msbBits n m) = acc * 2 ^ n + m % 2 ^ n := by
  induction n generalizing acc with
  | zero => simp [extendByBits, msbBits, Nat.mod_one]
  | succ n ih =>
    calc extendByBits acc (msbBits (n + 1) m)
      _ = (2 * acc + (m.testBit n).toNat) * 2 ^ n + m % 2 ^ n := ih _
      _ = acc * 2 ^ (n + 1) + (m % 2 ^ n + 2 ^ n * (m / 2 ^ n % 2)) := by rw [Nat.toNat_testBit]; ring
      _ = acc * 2 ^ (n + 1) + m % 2 ^ (n + 1) := by rw [Nat.mod_pow_succ]

/-- The bits of a number other than 0 begin with its highest bit, which is 1. -/
theorem msbBits_log2_succ {m : Nat} (h : m ≠ 0) :
    msbBits (m.log2 + 1) m = true :: msbBits m.log2 m := by
  rw [msbBits, Nat.testBit_log2 h]

/-- The bits below the highest one, read after it, form the number again. -/
theorem extendByBits_one_msbBits_log2 {m : Nat} (h : m ≠ 0) : extendByBits 1 (msbBits m.log2 m) = m := by
  have low : 2 ^ m.log2 ≤ m := Nat.log2_self_le h
  have high : m < 2 ^ m.log2 * 2 := Nat.lt_log2_self
  rw [extendByBits_msbBits, Nat.mod_eq_sub_mod low, Nat.mod_eq_of_lt (by omega)]
  omega

/-! ### The decoder of a value -/

theorem countZeros_replicate (z n : Nat) (bits : List Bool) :
    countZeros z (List.replicate n false ++ true :: bits) = some (z + n, bits) := by
  induction n generalizing z with
  | zero => rfl
  | succ n ih =>
    calc countZeros z (List.replicate (n + 1) false ++ true :: bits)
      _ = countZeros (z + 1) (List.replicate n false ++ true :: bits) := rfl
      _ = some (z + (n + 1), bits) := by rw [ih, Nat.add_right_comm, Nat.add_assoc]

/-- `z` zero bits and a 1 are followed by the `z + k` lower bits of m; the rest is left (section 6.6, step 3). -/
theorem decodeValue_of_bits {k z : Nat} {bits : List Bool} (h : bits.length = z + k) (rest : List Bool) :
    decodeValue k (List.replicate z false ++ true :: (bits ++ rest)) =
      some (extendByBits 1 bits - 2 ^ k, rest) := by
  have enough : ¬ (bits ++ rest).length < z + k := by
    rw [List.length_append]
    omega
  simp only [decodeValue, countZeros_replicate, Nat.zero_add, if_neg enough, List.take_left' h,
    List.drop_left' h, extendByBits]

/-! ### The code of a value -/

theorem add_two_pow_ne_zero (k v : Nat) : v + 2 ^ k ≠ 0 :=
  (Nat.add_pos_right v (Nat.two_pow_pos k)).ne'

/-- L is at least k + 1: the number of leading zeros is never negative. -/
theorem le_log2_add_two_pow (k v : Nat) : k ≤ (v + 2 ^ k).log2 :=
  (Nat.le_log2 (add_two_pow_ne_zero k v)).mpr (Nat.le_add_left _ v)

theorem valueCode_eq (k v : Nat) :
    valueCode k v =
      List.replicate ((v + 2 ^ k).log2 - k) false ++ msbBits ((v + 2 ^ k).log2 + 1) (v + 2 ^ k) := rfl

theorem length_valueCode (k v : Nat) :
    (valueCode k v).length = 2 * ((v + 2 ^ k).log2 + 1) - 1 - k := by
  have zeros := le_log2_add_two_pow k v
  rw [valueCode_eq, List.length_append, List.length_replicate, length_msbBits]
  omega

/-- The values of a row lie below 2048 (R97), and with 2^k for an order of at most 3 below 2^12. -/
theorem length_valueCode_le {k v : Nat} (hk : k ≤ 3) (hv : v ≤ 2047) : (valueCode k v).length ≤ 23 := by
  have offset : 2 ^ k ≤ 2 ^ 3 := Nat.pow_le_pow_right (by decide) hk
  have short : (v + 2 ^ k).log2 < 12 := (Nat.log2_lt (add_two_pow_ne_zero k v)).mpr (by omega)
  rw [length_valueCode]
  omega

theorem decodeValue_valueCode (k v : Nat) (rest : List Bool) :
    decodeValue k (valueCode k v ++ rest) = some (v, rest) := by
  have nonzero := add_two_pow_ne_zero k v
  have count : (msbBits (v + 2 ^ k).log2 (v + 2 ^ k)).length = (v + 2 ^ k).log2 - k + k := by
    rw [length_msbBits, Nat.sub_add_cancel (le_log2_add_two_pow k v)]
  rw [valueCode_eq, msbBits_log2_succ nonzero, List.append_assoc, List.cons_append, decodeValue_of_bits count,
    extendByBits_one_msbBits_log2 nonzero, Nat.add_sub_cancel]

/-! ### The obligation -/

/-- Settles O52: the bits of m with its bounds, the two lengths, and the decoding, by the laws of the code. -/
theorem valueCodeReadsBack : Obligations.ValueCodeReadsBack := by
  unfold Obligations.ValueCodeReadsBack
  intro k v m len
  exact ⟨Nat.log2_self_le (add_two_pow_ne_zero k v), Nat.lt_log2_self,
    Nat.succ_le_succ (le_log2_add_two_pow k v),
    ⟨msbBits len m, valueCode_eq k v, length_msbBits len m, fun _ => getElem?_msbBits len m⟩,
    length_valueCode k v, length_valueCode_le, decodeValue_valueCode k v⟩

end Sys2Proof.Machine
end

section
/-! The measures and flags of a side: the ranges of the three measures, what sets each flag, and that the two
checks of a bound pair never both fire (R109 to R115). -/

namespace Sys2Proof.Machine

/-! ### The ranges of the measures -/

/-- No column holds more black pixels than the side has rows, so the side holds at most wo × ho (R79, R109). -/
theorem inkPerMille_le {inkCounters : List Nat} {wo ho : Nat} (width : inkCounters.length = wo)
    (bound : ∀ c ∈ inkCounters, c ≤ ho) : inkPerMille inkCounters wo ho ≤ 1000 := by
  have pixels : inkCounters.sum ≤ wo * ho := width ▸ inkCounters.sum_le_card_nsmul ho bound
  refine Nat.div_le_of_le_mul ?_
  omega

/-- A mean lies within the bound of its values (R79, R110). -/
theorem meanBackground_le {trackers : List Nat} {wo grey : Nat} (width : trackers.length = wo)
    (bound : ∀ b ∈ trackers, b ≤ grey) : meanBackground trackers wo ≤ grey := by
  have total : trackers.sum ≤ wo * grey := width ▸ trackers.sum_le_card_nsmul grey bound
  exact Nat.div_le_of_le_mul total

theorem streakColumns_eq (inkCounters : List Nat) (ho : Nat) :
    streakColumns inkCounters ho = (inkCounters.filter fun c => 15 * ho ≤ 16 * c).length :=
  List.countP_eq_length_filter

theorem streakColumns_le (inkCounters : List Nat) (ho : Nat) :
    streakColumns inkCounters ho ≤ inkCounters.length :=
  List.countP_le_length

/-! ### The flags of a CODED side -/

section
variable {p : Profile} {step ink background streaks byteCount : Nat}

theorem codedFlags_inkLow_iff :
    (codedFlags p step ink background streaks byteCount).inkLow = true ↔ ink < p.inkLow :=
  decide_eq_true_iff

theorem codedFlags_inkHigh_iff :
    (codedFlags p step ink background streaks byteCount).inkHigh = true ↔ p.inkHigh < ink :=
  decide_eq_true_iff

theorem codedFlags_bgLow_iff :
    (codedFlags p step ink background streaks byteCount).bgLow = true ↔ background < p.bgLow :=
  decide_eq_true_iff

theorem codedFlags_bgHigh_iff :
    (codedFlags p step ink background streaks byteCount).bgHigh = true ↔ p.bgHigh < background :=
  decide_eq_true_iff

theorem codedFlags_small_iff :
    (codedFlags p step ink background streaks byteCount).small = true ↔ byteCount < p.bytesLow :=
  decide_eq_true_iff

theorem codedFlags_streak_iff :
    (codedFlags p step ink background streaks byteCount).streak = true ↔ p.streakLimit < streaks :=
  decide_eq_true_iff

theorem codedFlags_fallback_iff :
    (codedFlags p step ink background streaks byteCount).fallback = true ↔ 0 < step :=
  decide_eq_true_iff

/-- The values of a bound pair are in order (R123), so no measure lies outside both. -/
theorem codedFlags_ink_exclusive (ordered : p.inkLow ≤ p.inkHigh) :
    ¬ ((codedFlags p step ink background streaks byteCount).inkLow = true ∧
      (codedFlags p step ink background streaks byteCount).inkHigh = true) := by
  rw [codedFlags_inkLow_iff, codedFlags_inkHigh_iff]
  omega

theorem codedFlags_background_exclusive (ordered : p.bgLow ≤ p.bgHigh) :
    ¬ ((codedFlags p step ink background streaks byteCount).bgLow = true ∧
      (codedFlags p step ink background streaks byteCount).bgHigh = true) := by
  rw [codedFlags_bgLow_iff, codedFlags_bgHigh_iff]
  omega

end

/-! ### The flags of any other side -/

theorem statusFlags_anyQuality (status : SideStatus) (step : Nat) :
    (statusFlags status step).anyQuality = false := rfl

theorem statusFlags_oversize_iff {status : SideStatus} {step : Nat} :
    (statusFlags status step).oversize = true ↔ status = .oversize :=
  decide_eq_true_iff

theorem statusFlags_fallback_iff {status : SideStatus} {step : Nat} :
    (statusFlags status step).fallback = true ↔ 0 < step :=
  decide_eq_true_iff

/-! ### The obligation -/

/-- Settles O51: the measures' ranges follow from those of the columns, one tracker and one counter each, and the
flags from the checks on the measures. -/
theorem measuresAndFlags : Obligations.MeasuresAndFlags := by
  unfold Obligations.MeasuresAndFlags
  constructor
  case left =>
    intro p sd hp hsd _ _ hink r
    obtain ⟨-, -, -, -, -, -, -, -, -, ⟨inkOrdered, -⟩, ⟨bgOrdered, -⟩, -⟩ := hp
    obtain ⟨⟨trackerWidth, hgrey⟩, counterWidth, -, withinBudget, -⟩ := hsd
    have streaksInWidth : r.streaks ≤ sd.wo := counterWidth ▸ streakColumns_le sd.inkCounters sd.ho
    exact ⟨rfl, rfl, rfl, rfl, rfl, rfl, withinBudget, rfl, inkPerMille_le counterWidth hink, rfl,
      meanBackground_le trackerWidth hgrey, streakColumns_eq .., streaksInWidth, codedFlags_inkLow_iff,
      codedFlags_inkHigh_iff, codedFlags_bgLow_iff, codedFlags_bgHigh_iff, codedFlags_small_iff,
      codedFlags_streak_iff, rfl, codedFlags_fallback_iff, codedFlags_ink_exclusive inkOrdered,
      codedFlags_background_exclusive bgOrdered⟩
  case right =>
    intro st offset step wo ho r
    exact ⟨rfl, rfl, rfl, rfl, statusFlags_anyQuality st step, statusFlags_oversize_iff,
      statusFlags_fallback_iff⟩

end Sys2Proof.Machine
end

section
/-! An application of an update: what each of its stages writes, and why it keeps a profile valid. As R123 argues,
the clamp keeps every field in its range, and the pair rule then orders the pairs and takes no field out of it. -/

namespace Sys2Proof.Machine

/-! ### Validity in two halves (R123) -/

/-- Every field lies in its range (R121), with both ends that a write clamps to (R125), the lower end 0 included. -/
structure Profile.InRanges (p : Profile) : Prop where
  outDpi : 50 ≤ p.outDpi ∧ p.outDpi ≤ 600
  contrast : 32 ≤ p.contrast ∧ p.contrast ≤ 63
  tFloor : 0 ≤ p.tFloor ∧ p.tFloor ≤ 255
  tCeil : 0 ≤ p.tCeil ∧ p.tCeil ≤ 255
  bgStart : 0 ≤ p.bgStart ∧ p.bgStart ≤ 255
  inkGap : 0 ≤ p.inkGap ∧ p.inkGap ≤ 255
  kTrack : 0 ≤ p.kTrack ∧ p.kTrack ≤ 7
  runOrder : 0 ≤ p.runOrder ∧ p.runOrder ≤ 3
  fallbackLimit : 0 ≤ p.fallbackLimit ∧ p.fallbackLimit ≤ 2
  bytesLow : 0 ≤ p.bytesLow ∧ p.bytesLow ≤ 1048576
  bytesHigh : 64 ≤ p.bytesHigh ∧ p.bytesHigh ≤ 1048576
  inkLow : 0 ≤ p.inkLow ∧ p.inkLow ≤ 1000
  inkHigh : 0 ≤ p.inkHigh ∧ p.inkHigh ≤ 1000
  bgLow : 0 ≤ p.bgLow ∧ p.bgLow ≤ 255
  bgHigh : 0 ≤ p.bgHigh ∧ p.bgHigh ≤ 255
  streakLimit : 0 ≤ p.streakLimit ∧ p.streakLimit ≤ 255

/-- In each bound pair the upper value is not below the lower (R123). -/
structure Profile.PairsOrdered (p : Profile) : Prop where
  threshold : p.tFloor ≤ p.tCeil
  bytes : p.bytesLow ≤ p.bytesHigh
  ink : p.inkLow ≤ p.inkHigh
  background : p.bgLow ≤ p.bgHigh

theorem Profile.valid_iff (p : Profile) : p.Valid ↔ p.InRanges ∧ p.PairsOrdered := by
  constructor
  · intro valid
    constructor <;> constructor <;> omega
  · rintro ⟨ranges, ordered⟩
    cases ranges
    cases ordered
    omega

/-! ### Stage 1: the clamp (R124, R125) -/

theorem clampTo_eq_ite {lo hi : Nat} (h : lo ≤ hi) (v : Nat) :
    clampTo lo hi v = if v < lo then lo else if hi < v then hi else v := by
  unfold clampTo
  split
  · omega
  · split <;> omega

theorem Update.write_eq_ite (u : Update) (i : Fin 16) {lo hi : Nat} (h : lo ≤ hi) (old : Nat) :
    u.write i lo hi old =
      if u.mask.getLsbD i.val then
        if u.values[i].toNat < lo then lo else if hi < u.values[i].toNat then hi else u.values[i].toNat
      else old := by
  rw [Update.write, clampTo_eq_ite h]

theorem Profile.writeFields_inRanges {p : Profile} (u : Update) (h : p.InRanges) : (p.writeFields u).InRanges where
  outDpi := u.write_mem 0 h.outDpi
  contrast := u.write_mem 1 h.contrast
  tFloor := u.write_mem 2 h.tFloor
  tCeil := u.write_mem 3 h.tCeil
  bgStart := u.write_mem 4 h.bgStart
  inkGap := u.write_mem 5 h.inkGap
  kTrack := u.write_mem 6 h.kTrack
  runOrder := u.write_mem 7 h.runOrder
  fallbackLimit := u.write_mem 8 h.fallbackLimit
  bytesLow := u.write_mem 9 h.bytesLow
  bytesHigh := u.write_mem 10 h.bytesHigh
  inkLow := u.write_mem 11 h.inkLow
  inkHigh := u.write_mem 12 h.inkHigh
  bgLow := u.write_mem 13 h.bgLow
  bgHigh := u.write_mem 14 h.bgHigh
  streakLimit := u.write_mem 15 h.streakLimit

/-! ### Stage 2: the pair rule (R126) -/

/-- The pair rule's comparison, as the rule states it. -/
theorem max_eq_ite_upper_lt (lower upper : Nat) : max lower upper = if upper < lower then lower else upper := by
  rw [max_comm, max_def_lt]

theorem Profile.orderPairs_pairsOrdered (p : Profile) : p.orderPairs.PairsOrdered where
  threshold := le_max_left ..
  bytes := le_max_left ..
  ink := le_max_left ..
  background := le_max_left ..

/-- An upper value is raised to a value that lies within its own range's upper end. -/
theorem max_mem {lo hi lower upper : Nat} (hl : lower ≤ hi) (hu : lo ≤ upper ∧ upper ≤ hi) :
    lo ≤ max lower upper ∧ max lower upper ≤ hi :=
  ⟨le_max_of_le_right hu.1, max_le hl hu.2⟩

theorem Profile.orderPairs_inRanges {p : Profile} (h : p.InRanges) : p.orderPairs.InRanges :=
  { h with
    tCeil := max_mem h.tFloor.2 h.tCeil
    bytesHigh := max_mem h.bytesLow.2 h.bytesHigh
    inkHigh := max_mem h.inkLow.2 h.inkHigh
    bgHigh := max_mem h.bgLow.2 h.bgHigh }

/-! ### The application as a whole -/

theorem ProfileVersion.applyUpdate_valid {v : ProfileVersion} (u : Update) (h : v.fields.Valid) :
    (v.applyUpdate u).fields.Valid := by
  obtain ⟨ranges, -⟩ := v.fields.valid_iff.1 h
  exact (Profile.valid_iff _).2
    ⟨Profile.orderPairs_inRanges (Profile.writeFields_inRanges u ranges), Profile.orderPairs_pairsOrdered _⟩

theorem ProfileStore.applyUpdate_profiles (st : ProfileStore) (p q : Fin 16) (u : Update) :
    (st.applyUpdate p u).profiles[q] = if q = p then st.profiles[p].applyUpdate u else st.profiles[q] := by
  split
  · next same => rw [same, st.applyUpdate_self]
  · next other => exact st.applyUpdate_other u (Ne.symm other)

/-! ### The obligation -/

/-- Settles O38: stage by stage, with the clamp and the pair rule as the comparisons the rules state; validity from
its two halves; and the store's frame. -/
theorem applicationClampsThenOrdersThePairs : Obligations.ApplicationClampsThenOrdersThePairs := by
  refine ⟨fun v u => ⟨?_, v.applyUpdate_valid u⟩,
    fun st p q u => ⟨st.applyUpdate_profiles p q u, st.applyUpdate_stageList p u⟩⟩
  simp (disch := decide) only [ProfileVersion.applyUpdate, Profile.orderPairs, Profile.writeFields,
    Update.write_eq_ite, max_eq_ite_upper_lt]

end Sys2Proof.Machine
end

section
/-! The ranking of the sources: that it lists every source in order of rank, so that the first of it that satisfies a
predicate is the highest-ranked that does (R157); eligibility (R158); and a raise of a pending source (R156). -/

namespace Sys2Proof.Machine

/-! ### The ranking (R157) -/

/-- Source x stands x - (L + 1) places down the ranking, modulo 9. -/
theorem mem_sourceRanking (lowest x : Source) : x ∈ sourceRanking lowest :=
  List.mem_map.2 ⟨x - (lowest + 1), List.mem_finRange _, add_sub_cancel ..⟩

theorem pairwise_sourceRanking (lowest : Source) :
    (sourceRanking lowest).Pairwise fun x y => sourceRank lowest x < sourceRank lowest y := by
  simp only [sourceRanking, List.pairwise_map, sourceRank_ranking]
  exact List.pairwise_lt_finRange 9

/-! ### The highest-ranked source with a property -/

section

variable {lowest : Source} {p : Source → Bool}

theorem highest_eq_none_iff : highest lowest p = none ↔ ∀ x : Source, p x = false := by
  simp [highest, mem_sourceRanking]

theorem highest_satisfies {x : Source} (h : highest lowest p = some x) : p x = true :=
  List.find?_some h

/-- The sources before the one found do not satisfy the predicate, and those after it rank below it. -/
theorem sourceRank_highest_le {x y : Source} (h : highest lowest p = some x) (hy : p y = true) :
    sourceRank lowest x ≤ sourceRank lowest y := by
  obtain ⟨-, before, after, ranking, notBefore⟩ := List.find?_eq_some_iff_append.1 h
  have ordered := pairwise_sourceRanking lowest
  have listed := mem_sourceRanking lowest y
  rw [ranking] at ordered listed
  obtain ⟨-, fromFound, -⟩ := List.pairwise_append.1 ordered
  obtain inBefore | inRest := List.mem_append.1 listed
  · exact absurd hy (by simpa using notBefore y inBefore)
  · obtain rfl | inAfter := List.mem_cons.1 inRest
    · exact le_rfl
    · exact (List.rel_of_pairwise_cons fromFound inAfter).le

theorem highest_eq_some_iff {x : Source} :
    highest lowest p = some x ↔ p x = true ∧ ∀ y, p y = true → sourceRank lowest x ≤ sourceRank lowest y := by
  refine ⟨fun h => ⟨highest_satisfies h, fun y => sourceRank_highest_le h⟩, fun ⟨hx, least⟩ => ?_⟩
  cases found : highest lowest p with
  | none => exact absurd hx (by simp [highest_eq_none_iff.1 found x])
  | some y =>
    have same := (sourceRank_highest_le found hx).antisymm (least y (highest_satisfies found))
    rw [sourceRank_inj lowest y x same]

end

/-! ### Eligibility, the line and a raise -/

section

variable (c : NoticeController)

theorem NoticeController.eligible_iff (x : Source) :
    c.eligible x = true ↔ c.pending[x] = true ∧ c.masked[x] = false ∧
      (c.mode = .nested →
        ∀ y : Source, c.inService[y] = true → sourceRank c.lowest x < sourceRank c.lowest y) := by
  cases mode : c.mode <;> simp [NoticeController.eligible, NoticeController.aboveService, mode, and_assoc]

theorem NoticeController.line_iff : c.line = true ↔ ∃ x : Source, c.eligible x = true :=
  decide_eq_true_iff

/-- A raise is absorbed when its source is pending already (R156). -/
theorem NoticeController.raise_of_pending {x : Source} (h : c.pending[x] = true) : c.raise x = c := by
  have same : c.pending.set x true = c.pending := by rw [← h]; exact Vector.set_getElem_self _
  rw [NoticeController.raise, same, become_self]

end

/-! ### The obligation -/

/-- Settles O16: a raise is a change taken whole, which keeps all but the pending set; PEEK is the highest-ranked of
the eligible sources. -/
theorem raisesEligibilityRankingAndPeek : Obligations.RaisesEligibilityRankingAndPeek := by
  refine fun c => ⟨fun x => ?raise, sourceRank_ranking c.lowest, c.eligible_iff, c.line_iff,
    highest_eq_none_iff, fun x => highest_eq_some_iff⟩
  have sets := c.become_sets { c with pending := c.pending.set x true }
  exact ⟨sets.pending, sets.inService, sets.masked, sets.lowest, sets.mode, sets.messageEnable,
    c.raise_of_pending⟩

end Sys2Proof.Machine
end

section
/-! What a command can do to the block: one relation between a command, the state before it and the state after, with
one case for each kind of change, and for a lane's own requests one case for each end. Every rule of the whole block
and every invariant is proved over these cases. -/

namespace Sys2Proof.Machine

/-! ### What can become of the parts -/

/-- The notice controller after an event that may raise a source. -/
def NoticeController.Raised (c c' : NoticeController) : Prop :=
  c' = c ∨ ∃ x, c' = c.raise x

/-- The notice controller after a change that a NOTICE write, a TAKE or a CONTROL write makes: one taken whole, which
leaves the messages to the rise of the condition (R158, R164). -/
def NoticeController.Changed (c c' : NoticeController) : Prop :=
  ∃ b : NoticeController, c' = c.become b ∧ b.inFlight = c.inFlight ∧ b.due = c.due ∧ b.sent = c.sent ∧
    b.lastSent = c.lastSent ∧ (b.inService = SourceSet.empty ∨ b.mode = c.mode ∧
      (c.mode = .autoEnd → ∀ x : Source, b.inService[x] = true → c.inService[x] = true))

/-- The part of a lane's work that a request belongs to. -/
def LaneRequest.part (r : LaneRequest) : RequestPart :=
  { Lane.reset with request := some r }.part

theorem Lane.part_of_request {l : Lane} {r : LaneRequest} (h : l.request = some r) : l.part = r.part := by
  simp only [LaneRequest.part, Lane.part, h]

theorem Lane.recordWriteInFlight_of_request {l : Lane} {occasion : RecordOccasion} {a : Addr} {bytes : List Byte}
    (h : l.request = some (.recordWrite occasion a bytes)) : l.recordWriteInFlight = true := by
  simp only [Lane.recordWriteInFlight, h]

/-- What the end of a lane's request in flight, issued in the present epoch, makes of the lane. -/
inductive Lane.RequestEnd (area : Addr) (epoch : Nat) (n : LaneNo) (l : Lane) : Instr → Lane → Prop
  | configured {a : Addr} {half : List Byte} (request : l.request = some (.hostHalfRead a)) :
      RequestEnd area epoch n l (.hostHalfReadDone n ⟨epoch, .ok half⟩)
        ({ l with timer := l.timer.configure half, condition := .running }.writeRecord area n .start)
  | faulted {c : Instr} {code : FaultCode} {docket : Addr} (busy : l.part ≠ .nothing) (working : l.part ≠ .rest) :
      RequestEnd area epoch n l c (l.fault area n code docket)
  | atBoundary {c : Instr} {a : Addr} {bytes : List Byte}
      (request : l.request = some (.recordWrite .start a bytes) ∨ l.request = some (.recordWrite .skip a bytes)) :
      RequestEnd area epoch n l c (l.checkBoundary area n)
  | foundNothing {c : Instr} {a : Addr}
      (request : l.request = some (.linkRead a) ∨ l.request = some (.stateWordRead a)) :
      RequestEnd area epoch n l c (l.findNothing area n)
  | followed {c : Instr} {a v : Addr} (request : l.request = some (.linkRead a)) (aligned : v.toNat % 64 = 0) :
      RequestEnd area epoch n l c { l with docket := v, request := some (.stateWordRead v) }
  | readPosted {c : Instr} {a : Addr} (request : l.request = some (.stateWordRead a)) :
      RequestEnd area epoch n l c { l with request := some (.docketRead (l.docket + 4)) }
  | copied {c : Instr} {a : Addr} {copy : List Byte} (request : l.request = some (.docketRead a)) :
      RequestEnd area epoch n l c
        { l with copy := some copy, request := some (.claim l.docket wordPosted wordTaken) }
  | skipped {c : Instr} (working : l.part = .startOrCheck ∨ l.part = .claim)
      (found : c = .stateWordReadDone n ⟨epoch, .ok 5⟩ ∨ c = .claimDone n ⟨epoch, .ok 5⟩) :
      RequestEnd area epoch n l c (l.skip area n)
  | reporting {c : Instr} {a : Addr} {v w : Word} {r : Report} (request : l.request = some (.claim a v w)) :
      RequestEnd area epoch n l c ({ l with holds := true }.beginReport r)
  | asking {c : Instr} {a : Addr} {v w : Word} {r : StoreRequest} (request : l.request = some (.claim a v w)) :
      RequestEnd area epoch n l c ({ l with holds := true }.askStore r)
  | resultWritten {c : Instr} {a : Addr} {bytes : List Byte} {w : Word}
      (request : l.request = some (.resultWrite a bytes)) :
      RequestEnd area epoch n l c { l with request := some (.stateWordWrite l.docket w) }
  | finished {a : Addr} {v : Word} {r : Report} (request : l.request = some (.stateWordWrite a v)) :
      RequestEnd area epoch n l (.stateWordWriteDone n ⟨epoch, .ok⟩) (l.finishDocket area n r.change)
  | reported {c : Instr} {a : Addr} {bytes : List Byte} (request : l.request = some (.recordWrite .report a bytes)) :
      RequestEnd area epoch n l c
        ({ l with timer := l.timer.completion.1, copy := none, report := none }.checkBoundary area n)
  | restarted {c : Instr} (rest : l.part = .rest) (due : l.startDue = true) :
      RequestEnd area epoch n l c (l.readHostHalf area n)
  | rested {c : Instr} (rest : l.part = .rest) (due : l.startDue = false) :
      RequestEnd area epoch n l c { l with request := none }

/-- What a command that the lane does not end a request with makes of the lane: an action of LANE, or a tick. -/
inductive Lane.Event (area : Addr) (n : LaneNo) (running : Prop) (l : Lane) : Instr → Lane → Prop
  | started {b : Byte} (named : b.toNat = n.val) (isRunning : running) :
      Event area n running l (.start b) (l.takeStart area n)
  | stopped {b : Byte} (isRunning : running) : Event area n running l (.stop b) (l.takeStop area n)
  | posted {b : Byte} (isRunning : running) : Event area n running l (.post b) (l.takePost area n)
  | ticked : Event area n running l (.holdoffTick n) { l with timer := l.timer.tick.1 }
  | underflowed : Event area n running l (.holdoffUnderflow n) { l with timer := l.timer.underflowEvent.1 }

/-- What the profile store becomes when it takes a lane's request (R129 to R133). -/
inductive ProfileStore.Taken (st : ProfileStore) : Instr → ProfileStore → Prop
  | applied {n : LaneNo} {p : Fin 16} {u : Update} : Taken st (.stageNow n) (st.applyUpdate p u)
  | appended {n : LaneNo} {e : StageEntry} (room : st.stageList.length < 4) :
      Taken st (.stageAtOpen n) (st.append e)
  | full {n : LaneNo} : Taken st (.stageAtOpen n) st
  | cancelled {n : LaneNo} {p : Fin 16} : Taken st (.stageCancel n) (st.cancel p)
  | opened {n : LaneNo} : Taken st (.openBundle n) (st.openLane n)

/-- The commands by which a device-half write of lane `n`, issued in `epoch`, ends in error. -/
def FailsRecordWrite (epoch : Nat) (n : LaneNo) (c : Instr) : Prop :=
  c = .startRecordWriteDone n ⟨epoch, .error⟩ ∨ c = .skipWriteDone n ⟨epoch, .error⟩ ∨
    c = .reportRecordWriteDone n ⟨epoch, .error⟩ ∨ c = .stopRecordWriteDone n ⟨epoch, .error⟩ ∨
    c = .faultRecordWriteDone n ⟨epoch, .error⟩

/-- The end of a request of unit `u`, of its attempt in progress, and what the unit becomes. -/
inductive ReductionUnit.RequestEnd (u : ReductionUnit) (draw : Nat) : ReductionUnit → Prop
  | read {it : ItemContext} {d : SideDescriptor} {sd : SideContext} {row off : Nat} {result : ReadEnd (List Byte)}
      (attempt : u.attempt = some (it, d, sd)) (accepts : sd.accepts row off result = true) :
      RequestEnd u draw ((u.withSide
        ((sd.readEnded d it.fields row off result).pump d (itemOutputAddress it.copy) draw)).settle draw)
  | write {it : ItemContext} {d : SideDescriptor} {sd : SideContext} {index : Nat} {result : WriteEnd}
      (attempt : u.attempt = some (it, d, sd)) (accepts : sd.acceptsWrite index = true) :
      RequestEnd u draw ((u.withSide
        ((sd.writeEnded index result).pump d (itemOutputAddress it.copy) draw)).settle draw)

/-! ### What a command can do -/

/-- What a command can do to the block. -/
inductive State.Effect (s : State) : Instr → State → Prop
  | kept {c : Instr} : Effect s c s
  | dropped {c : Instr} : Effect s c s.drop
  | noticed {c : Instr} {c' : NoticeController} (change : s.notice.Changed c') : Effect s c (s.setNotice c')
  | message {o : MessageOutlet} : Effect s (.message o) (s.setNotice (s.notice.issueMessage o))
  | taken {c : Instr} {c' : NoticeController} {bytes : List Byte} (change : s.notice.Changed c') :
      Effect s c { s.setNotice c' with readData := bytes }
  | controlled {c : Instr} {w : Word} {run : Bool} : Effect s c ((s.writeModes w).writeRun run)
  | engineReset {w : Word} : Effect s (.engineReset w) s.engineReset
  | coldReset {r : ColdResetCause} : Effect s (.coldReset r) s.coldReset
  | area {c : Instr} {which : AreaWord} {v : Word} : Effect s c (s.writeArea which v)
  | status {v : Word} (clears : v.getLsbD 8 = true) : Effect s (.statusWrite v) { s with dropped := false }
  | lane {c : Instr} {n : LaneNo} {l : Lane} {c' : NoticeController}
      (event : s.lanes[n].Event s.area n (s.engine = .running) c l) (raised : s.notice.Raised c') :
      Effect s c ((s.setLane n l).setNotice c')
  | requestEnd {c : Instr} {n : LaneNo} {l : Lane} {c' : NoticeController}
      (ends : s.lanes[n].RequestEnd s.area s.epoch n c l) (raised : s.notice.Raised c') :
      Effect s c ((s.setLane n l).setNotice c')
  | halted {c : Instr} {n : LaneNo} (fails : FailsRecordWrite s.epoch n c)
      (writing : s.lanes[n].recordWriteInFlight = true) : Effect s c s.halt
  | asksUnit {c : Instr} {n : LaneNo} {a : Addr} {v w : Word} (request : s.lanes[n].request = some (.claim a v w)) :
      Effect s c (s.requestUnit n { s.lanes[n] with holds := true })
  | store {c : Instr} {n : LaneNo} {st : ProfileStore} {r : Report} (asks : ∃ asked, s.lanes[n].storeRequest = some asked)
      (taken : s.store.Taken c st) : Effect s c ((s.setStore st).setLane n (s.lanes[n].beginReport r))
  | snapshot {c : Instr} {u : UnitNo} {n : LaneNo} {copy : List Byte} {p : Fin 16}
      (admitted : s.units[u] = .admitting n copy (some p)) :
      Effect s c (s.setUnit u (enterFront ⟨n, copy, p, s.store.profiles[p]⟩ s.draws)).nextDraw
  | unit {c : Instr} {u : UnitNo} {r : ReductionUnit} (ends : s.units[u].RequestEnd s.draws r) :
      Effect s c (s.nextDraw.putUnit u r)

/-! ### The notice controller's changes -/

section

variable (c : NoticeController)

/-- A change that keeps the mode and takes no source into service. -/
theorem NoticeController.changed_become {b : NoticeController} (messages : b.inFlight = c.inFlight ∧ b.due = c.due)
    (record : b.sent = c.sent ∧ b.lastSent = c.lastSent) (mode : b.mode = c.mode)
    (service : ∀ x : Source, b.inService[x] = true → c.inService[x] = true) : c.Changed (c.become b) :=
  ⟨b, rfl, messages.1, messages.2, record.1, record.2, .inr ⟨mode, fun _ => service⟩⟩

theorem NoticeController.changed_self : c.Changed c := by
  have change := c.changed_become (b := c) ⟨rfl, rfl⟩ ⟨rfl, rfl⟩ rfl fun _ h => h
  rwa [become_self] at change

/-- A source taken out of a set leaves it no larger. -/
theorem SourceSet.mem_of_mem_set_false {v : SourceSet} {x y : Source} (h : (v.set x false)[y] = true) :
    v[y] = true := by
  by_cases same : x.val = y.val
  · simp [same] at h
  · simpa [same] using h

theorem NoticeController.raise_changed (x : Source) : c.Changed (c.raise x) :=
  c.changed_become ⟨rfl, rfl⟩ ⟨rfl, rfl⟩ rfl fun _ h => h

theorem NoticeController.endSource_changed (x : Source) : c.Changed (c.endSource x) :=
  c.changed_become ⟨rfl, rfl⟩ ⟨rfl, rfl⟩ rfl fun _ => SourceSet.mem_of_mem_set_false

theorem NoticeController.endAny_changed : c.Changed c.endAny := by
  unfold NoticeController.endAny
  split
  · exact c.endSource_changed _
  · exact c.changed_self

theorem NoticeController.endAnyRotate_changed : c.Changed c.endAnyRotate := by
  unfold NoticeController.endAnyRotate
  split
  · exact c.changed_become ⟨rfl, rfl⟩ ⟨rfl, rfl⟩ rfl fun _ => SourceSet.mem_of_mem_set_false
  · exact c.changed_self

theorem NoticeController.setLowest_changed (x : Source) : c.Changed (c.setLowest x) :=
  c.changed_become ⟨rfl, rfl⟩ ⟨rfl, rfl⟩ rfl fun _ h => h

theorem NoticeController.setMask_changed (x : Source) (on : Bool) : c.Changed (c.setMask x on) :=
  c.changed_become ⟨rfl, rfl⟩ ⟨rfl, rfl⟩ rfl fun _ h => h

/-- A TAKE brings a source into service in NESTED mode alone (R159). -/
theorem NoticeController.take_changed : c.Changed c.take := by
  unfold NoticeController.take
  split
  · exact ⟨_, rfl, rfl, rfl, rfl, rfl, .inr ⟨rfl, fun autoEnd x h => by simpa only [autoEnd] using h⟩⟩
  · exact c.changed_self

/-- A CONTROL write keeps the in-service set with the mode, and empties it with a change of mode (R163). -/
theorem NoticeController.configure_changed (mode : NoticeMode) (enable : Bool) :
    c.Changed (c.configure mode enable) := by
  refine ⟨_, rfl, rfl, rfl, rfl, rfl, ?_⟩
  by_cases same : mode = c.mode
  · exact .inr ⟨same, fun _ x h => by simpa [same] using h⟩
  · exact .inl (if_neg same)

theorem NoticeController.Raised.changed {c c' : NoticeController} (h : c.Raised c') : c.Changed c' := by
  obtain rfl | ⟨x, rfl⟩ := h
  · exact c'.changed_self
  · exact c.raise_changed x

end

/-! ### The window's commands -/

section

variable (s : State)

/-- Reads of some words in increasing order reach NOTICE once at most (R168). -/
theorem State.readRegisters_notice (count offset : Nat) :
    (State.readRegisters count offset s).2 = s ∨
      (State.readRegisters count offset s).2 = s.setNotice s.notice.take := by
  induction count generalizing offset s with
  | zero => exact .inl rfl
  | succ count ih =>
    obtain ⟨here, e⟩ | ⟨-, e⟩ := s.readRegister_cases offset
    · refine .inr ?_
      simp only [State.readRegisters, e]
      exact State.readRegisters_beside _ count (offset + 4) fun i _ => by omega
    · simp only [State.readRegisters, e]
      exact ih s (offset + 4)

theorem windowRead_notice (offset size : Nat) :
    (windowRead s offset size).2 = s ∨ (windowRead s offset size).2 = s.setNotice s.notice.take := by
  unfold windowRead
  split
  · exact s.readRegisters_notice _ _
  · exact .inl rfl

variable {s}

theorem State.Effect.noticed_source {c : Instr} {source : Byte} {f : Source → NoticeController}
    (changed : ∀ x, s.notice.Changed (f x)) : s.Effect c (s.withSource source f) := by
  obtain ⟨x, -, e⟩ | ⟨-, e⟩ := s.withSource_cases source f <;> rw [e]
  · exact .noticed (changed x)
  · exact .dropped

/-- A CONTROL write that is no engine reset. -/
theorem State.Effect.control {c : Instr} {w : Word} (h : w.getLsbD 1 = false) :
    s.Effect c (s.writeControl w) := by
  obtain ⟨reset, -⟩ | ⟨-, e⟩ := s.writeControl_cases w
  · rw [h] at reset
    cases reset
  · rw [e]
    exact .controlled

theorem State.Effect.action {c : Instr} {lane : Byte} {a : LaneAction}
    (event : ∀ n : LaneNo, n.val = lane.toNat → s.engine = .running →
      s.lanes[n].Event s.area n (s.engine = .running) c (s.lanes[n].act s.area n a)) :
    s.Effect c (s.passAction lane a) := by
  obtain ⟨running, n, named, e⟩ | ⟨-, e⟩ := s.passAction_cases lane a <;> rw [e]
  · exact .lane (event n named running) (.inl rfl)
  · exact .dropped

end

/-- A CONTROL word made of its four fields has engine reset 0 (R170). -/
theorem controlFields_getLsbD_one : ∀ (run : Bool) (dispatch : DispatchMode) (mode : NoticeMode) (enable : Bool),
    (controlFields run dispatch mode enable).getLsbD 1 = false := by
  intro run dispatch mode enable
  cases run <;> cases dispatch <;> cases mode <;> cases enable <;> decide

end Sys2Proof.Machine
end

section
/-! Every command has one of the effects. -/

namespace Sys2Proof.Machine

/-! ### The ends of a lane's requests -/

section

variable {s t : State} {n : LaneNo}

/-- An end that finds its issuer's request is of the present epoch. -/
theorem State.stillInFlight_eq_some {α : Type} {epoch : Nat} {r : Option α} {x : α}
    (h : s.stillInFlight epoch r = some x) : epoch = s.epoch ∧ r = some x := by
  obtain ⟨present, e⟩ | ⟨-, e⟩ := s.stillInFlight_cases epoch r <;> rw [e] at h
  · exact ⟨present, h⟩
  · cases h

/-- A change of a lane alone is one that raises nothing. -/
theorem State.Effect.requestEnd_quiet {c : Instr} {l : Lane}
    (ends : s.lanes[n].RequestEnd s.area s.epoch n c l) : s.Effect c (s.setLane n l) :=
  .requestEnd ends (.inl rfl)

/-- A fault ends a request that is neither that of an entry to STOPPED nor that of an earlier fault (R33). -/
theorem State.Effect.fault {c : Instr} {r : LaneRequest} {code : FaultCode} {docket : Addr}
    (request : s.lanes[n].request = some r) (part : r.part ≠ .nothing ∧ r.part ≠ .rest) :
    s.Effect c (s.setLane n (s.lanes[n].fault s.area n code docket)) := by
  rw [← Lane.part_of_request request] at part
  exact .requestEnd_quiet (.faulted part.1 part.2)

theorem execHostHalfReadDone_effect {epoch : Nat} {result : ReadEnd (List Byte)}
    (h : execHostHalfReadDone n ⟨epoch, result⟩ s = .next t) : s.Effect (.hostHalfReadDone n ⟨epoch, result⟩) t := by
  dsimp only [execHostHalfReadDone] at h
  split at h
  · next found =>
    obtain ⟨rfl, request⟩ := State.stillInFlight_eq_some found
    split at h <;> cases h
    · exact .requestEnd_quiet (.configured request)
    · exact .fault request ⟨nofun, nofun⟩
  · cases h
    exact .kept

theorem execStartRecordWriteDone_effect {epoch : Nat} {result : WriteEnd}
    (h : execStartRecordWriteDone n ⟨epoch, result⟩ s = .next t) :
    s.Effect (.startRecordWriteDone n ⟨epoch, result⟩) t := by
  dsimp only [execStartRecordWriteDone] at h
  split at h
  · next found =>
    obtain ⟨rfl, request⟩ := State.stillInFlight_eq_some found
    split at h <;> cases h
    · exact .requestEnd_quiet (.atBoundary (.inl request))
    · exact .halted (n := n) (.inl rfl) (Lane.recordWriteInFlight_of_request request)
  · cases h
    exact .kept

theorem execSkipWriteDone_effect {epoch : Nat} {result : WriteEnd}
    (h : execSkipWriteDone n ⟨epoch, result⟩ s = .next t) : s.Effect (.skipWriteDone n ⟨epoch, result⟩) t := by
  dsimp only [execSkipWriteDone] at h
  split at h
  · next found =>
    obtain ⟨rfl, request⟩ := State.stillInFlight_eq_some found
    split at h <;> cases h
    · exact .requestEnd_quiet (.atBoundary (.inr request))
    · exact .halted (n := n) (.inr (.inl rfl)) (Lane.recordWriteInFlight_of_request request)
  · cases h
    exact .kept

theorem execLinkReadDone_effect {epoch : Nat} {result : ReadEnd Addr}
    (h : execLinkReadDone n ⟨epoch, result⟩ s = .next t) : s.Effect (.linkReadDone n ⟨epoch, result⟩) t := by
  dsimp only [execLinkReadDone] at h
  split at h
  · next found =>
    obtain ⟨rfl, request⟩ := State.stillInFlight_eq_some found
    split at h
    · next v =>
      by_cases zero : v = 0
      · rw [if_pos zero] at h
        cases h
        exact .requestEnd_quiet (.foundNothing (.inl request))
      · rw [if_neg zero] at h
        by_cases bad : v.toNat % 64 ≠ 0
        · rw [if_pos bad] at h
          cases h
          exact .fault request ⟨nofun, nofun⟩
        · rw [if_neg bad] at h
          cases h
          exact .requestEnd_quiet (.followed request (not_not.1 bad))
    · cases h
      exact .fault request ⟨nofun, nofun⟩
  · cases h
    exact .kept

theorem execStateWordReadDone_effect {epoch : Nat} {result : ReadEnd Word}
    (h : execStateWordReadDone n ⟨epoch, result⟩ s = .next t) :
    s.Effect (.stateWordReadDone n ⟨epoch, result⟩) t := by
  dsimp only [execStateWordReadDone] at h
  split at h
  · next found =>
    obtain ⟨rfl, request⟩ := State.stillInFlight_eq_some found
    split at h
    · split_ifs at h with empty posted withdrawn <;> cases h
      · exact .requestEnd_quiet (.foundNothing (.inr request))
      · exact .requestEnd_quiet (.readPosted request)
      · exact .requestEnd_quiet (.skipped (.inl (Lane.part_of_request request)) (.inl (by rw [withdrawn]; rfl)))
      · exact .fault request ⟨nofun, nofun⟩
    · cases h
      exact .fault request ⟨nofun, nofun⟩
  · cases h
    exact .kept

theorem execDocketReadDone_effect {epoch : Nat} {result : ReadEnd (List Byte)}
    (h : execDocketReadDone n ⟨epoch, result⟩ s = .next t) : s.Effect (.docketReadDone n ⟨epoch, result⟩) t := by
  dsimp only [execDocketReadDone] at h
  split at h
  · next found =>
    obtain ⟨rfl, request⟩ := State.stillInFlight_eq_some found
    split at h <;> cases h
    · exact .requestEnd_quiet (.copied request)
    · exact .fault request ⟨nofun, nofun⟩
  · cases h
    exact .kept

/-- A claimed docket acted on: an ITEM asks for a unit, and any other is refused or executed, up to its report or its
request to the profile store (R28 to R30). -/
theorem actOnKind_effect {c : Instr} {a : Addr} {v w : Word} (request : s.lanes[n].request = some (.claim a v w)) :
    s.Effect c (s.actOnKind n { s.lanes[n] with holds := true }) := by
  have reports (r : Report) : s.Effect c (s.setLane n ({ s.lanes[n] with holds := true }.beginReport r)) :=
    .requestEnd_quiet (.reporting request)
  have asks (r : StoreRequest) : s.Effect c (s.setLane n ({ s.lanes[n] with holds := true }.askStore r)) :=
    .requestEnd_quiet (.asking request)
  unfold State.actOnKind
  split
  · exact .asksUnit request
  · unfold Lane.executeOpen
    split
    · exact reports _
    · exact asks _
  · unfold Lane.executeClose
    split
    · split
      · exact reports _
      · exact reports _
    · exact reports _
  · obtain e | e | ⟨r, e⟩ := { s.lanes[n] with holds := true }.executeStage_cases <;> rw [e]
    · exact reports _
    · exact reports _
    · exact asks r
  · exact reports _

theorem execClaimDone_effect {epoch : Nat} {result : ReadEnd Word}
    (h : execClaimDone n ⟨epoch, result⟩ s = .next t) : s.Effect (.claimDone n ⟨epoch, result⟩) t := by
  dsimp only [execClaimDone] at h
  split at h
  · next found =>
    obtain ⟨rfl, request⟩ := State.stillInFlight_eq_some found
    split at h
    · split_ifs at h with posted withdrawn <;> cases h
      · exact actOnKind_effect request
      · exact .requestEnd_quiet (.skipped (.inr (Lane.part_of_request request)) (.inr (by rw [withdrawn]; rfl)))
      · exact .fault request ⟨nofun, nofun⟩
    · cases h
      exact .fault request ⟨nofun, nofun⟩
  · cases h
    exact .kept

theorem execResultSectionWriteDone_effect {epoch : Nat} {result : WriteEnd}
    (h : execResultSectionWriteDone n ⟨epoch, result⟩ s = .next t) :
    s.Effect (.resultSectionWriteDone n ⟨epoch, result⟩) t := by
  dsimp only [execResultSectionWriteDone] at h
  split at h
  · next found _ =>
    obtain ⟨rfl, request⟩ := State.stillInFlight_eq_some found
    split at h <;> cases h
    · exact .requestEnd_quiet (.resultWritten request)
    · exact .fault request ⟨nofun, nofun⟩
  · cases h
    exact .kept

theorem execStateWordWriteDone_effect {epoch : Nat} {result : WriteEnd}
    (h : execStateWordWriteDone n ⟨epoch, result⟩ s = .next t) :
    s.Effect (.stateWordWriteDone n ⟨epoch, result⟩) t := by
  dsimp only [execStateWordWriteDone] at h
  split at h
  · next found _ =>
    obtain ⟨rfl, request⟩ := State.stillInFlight_eq_some found
    split at h <;> cases h
    · exact .requestEnd_quiet (.finished request)
    · exact .fault request ⟨nofun, nofun⟩
  · cases h
    exact .kept

theorem execReportRecordWriteDone_effect {epoch : Nat} {result : WriteEnd}
    (h : execReportRecordWriteDone n ⟨epoch, result⟩ s = .next t) :
    s.Effect (.reportRecordWriteDone n ⟨epoch, result⟩) t := by
  dsimp only [execReportRecordWriteDone] at h
  split at h
  · next found =>
    obtain ⟨rfl, request⟩ := State.stillInFlight_eq_some found
    split at h <;> cases h
    · rw [State.raiseLaneIf_eq]
      refine .requestEnd (.reported request) ?_
      split
      · exact .inr ⟨_, rfl⟩
      · exact .inl rfl
    · exact .halted (n := n) (.inr (.inr (.inl rfl))) (Lane.recordWriteInFlight_of_request request)
  · cases h
    exact .kept

/-- A stop or fault write that has ended: a START that waited goes on, or the lane rests (R27, R34). -/
theorem restWriteEnded_effect {c : Instr} (rest : s.lanes[n].part = .rest) :
    s.Effect c (s.restWriteEnded n s.lanes[n]) := by
  unfold State.restWriteEnded
  rw [State.raise_eq]
  refine .requestEnd ?_ (.inr ⟨_, rfl⟩)
  split
  · next due => exact .restarted rest due
  · next due => exact .rested rest (Bool.eq_false_iff.2 due)

theorem execStopRecordWriteDone_effect {epoch : Nat} {result : WriteEnd}
    (h : execStopRecordWriteDone n ⟨epoch, result⟩ s = .next t) :
    s.Effect (.stopRecordWriteDone n ⟨epoch, result⟩) t := by
  dsimp only [execStopRecordWriteDone] at h
  split at h
  · next found =>
    obtain ⟨rfl, request⟩ := State.stillInFlight_eq_some found
    split at h <;> cases h
    · exact restWriteEnded_effect (Lane.part_of_request request)
    · exact .halted (n := n) (.inr (.inr (.inr (.inl rfl)))) (Lane.recordWriteInFlight_of_request request)
  · cases h
    exact .kept

theorem execFaultRecordWriteDone_effect {epoch : Nat} {result : WriteEnd}
    (h : execFaultRecordWriteDone n ⟨epoch, result⟩ s = .next t) :
    s.Effect (.faultRecordWriteDone n ⟨epoch, result⟩) t := by
  dsimp only [execFaultRecordWriteDone] at h
  split at h
  · next found =>
    obtain ⟨rfl, request⟩ := State.stillInFlight_eq_some found
    split at h <;> cases h
    · exact restWriteEnded_effect (Lane.part_of_request request)
    · exact .halted (n := n) (.inr (.inr (.inr (.inr rfl)))) (Lane.recordWriteInFlight_of_request request)
  · cases h
    exact .kept

end

/-! ### The profile store, the units and the timers -/

section

variable {s t : State}

theorem execStageNow_effect {n : LaneNo} (h : execStageNow n s = .next t) : s.Effect (.stageNow n) t := by
  unfold execStageNow at h
  split at h <;> cases h
  · next asks => exact .store ⟨_, asks⟩ .applied
  · exact .kept

theorem execStageAtOpen_effect {n : LaneNo} (h : execStageAtOpen n s = .next t) : s.Effect (.stageAtOpen n) t := by
  unfold execStageAtOpen at h
  split at h
  · next asks =>
    split at h <;> cases h
    · next room => exact .store ⟨_, asks⟩ (.appended room)
    · exact .store (st := s.store) ⟨_, asks⟩ .full
  · cases h
    exact .kept

theorem execStageCancel_effect {n : LaneNo} (h : execStageCancel n s = .next t) : s.Effect (.stageCancel n) t := by
  unfold execStageCancel at h
  split at h <;> cases h
  · next asks => exact .store ⟨_, asks⟩ .cancelled
  · exact .kept

theorem execOpenBundle_effect {n : LaneNo} (h : execOpenBundle n s = .next t) : s.Effect (.openBundle n) t := by
  unfold execOpenBundle at h
  split at h <;> cases h
  · next asks => exact .store ⟨_, asks⟩ .opened
  · exact .kept

theorem execSnapshot_effect {u : UnitNo} (h : execSnapshot u s = .next t) : s.Effect (.snapshot u) t := by
  unfold execSnapshot at h
  split at h <;> cases h
  · next admitted => exact .snapshot admitted
  · exact .kept

theorem execSourceReadDone_effect {u : UnitNo} {row off : Nat} {ended : Ended (ReadEnd (List Byte))}
    (h : execSourceReadDone u row off ended s = .next t) : s.Effect (.sourceReadDone u row off ended) t := by
  unfold execSourceReadDone at h
  split at h <;> cases h
  · next r found =>
    obtain ⟨-, unit⟩ := State.stillInFlight_eq_some found
    obtain e | ⟨it, d, sd, attempt, accepts, e⟩ := s.units[u].readEnded_cases row off ended.result s.draws <;>
      rw [e] at unit <;> cases unit
    exact .unit (.read attempt accepts)
  · exact .kept

theorem execOutputWriteDone_effect {u : UnitNo} {index : Nat} {ended : Ended WriteEnd}
    (h : execOutputWriteDone u index ended s = .next t) : s.Effect (.outputWriteDone u index ended) t := by
  unfold execOutputWriteDone at h
  split at h <;> cases h
  · next r found =>
    obtain ⟨-, unit⟩ := State.stillInFlight_eq_some found
    obtain e | ⟨it, d, sd, attempt, accepts, e⟩ := s.units[u].writeEnded_cases index ended.result s.draws <;>
      rw [e] at unit <;> cases unit
    exact .unit (.write attempt accepts)
  · exact .kept

/-- A tick or an underflow of a lane's timer, with the raise it may make (R151, R153). -/
theorem timerEvent_effect {c : Instr} {n : LaneNo} {event : Timer → Timer × Bool}
    (lane : s.lanes[n].Event s.area n (s.engine = .running) c
      { s.lanes[n] with timer := (event s.lanes[n].timer).1 }) :
    s.Effect c (s.timerEvent n event) := by
  unfold State.timerEvent
  rw [State.raiseLaneIf_eq]
  refine .lane lane ?_
  split
  · exact .inr ⟨_, rfl⟩
  · exact .inl rfl

theorem execTake_effect {offset : BitVec 12} {size : Nat} (h : execTake offset size s = .next t) :
    s.Effect (.take offset size) t := by
  cases h
  obtain e | e := windowRead_notice s offset.toNat size <;> rw [e]
  · exact .taken (c' := s.notice) s.notice.changed_self
  · exact .taken s.notice.take_changed

theorem execStatusWrite_effect {v : Word} (h : execStatusWrite v s = .next t) : s.Effect (.statusWrite v) t := by
  cases h
  unfold State.writeStatus
  split
  · next clears => exact .status clears
  · exact .kept

theorem execEngineReset_effect {w : Word} (h : execEngineReset w s = .next t) : s.Effect (.engineReset w) t := by
  cases h
  obtain ⟨-, e⟩ | ⟨keeps, -⟩ := s.writeControl_cases (w ||| 2)
  · rw [e]
    exact .engineReset
  · simp at keeps

end

/-! ### Every command -/

/-- What the command does, for every command but UNMAPPED_WRITE. -/
theorem exec_effect_of_mapped {c : Instr} {s t : State} (mapped : ∀ offset size v, c ≠ .unmappedWrite offset size v)
    (h : exec c s = .next t) : s.Effect c t := by
  cases c with
  | start lane => cases h; exact .action fun n named running => .started named.symm running
  | stop lane => cases h; exact .action fun n _ running => .stopped running
  | post lane => cases h; exact .action fun n _ running => .posted running
  | runSet word => cases h; exact .control (by simp)
  | runClear word => cases h; exact .control (by simp)
  | engineReset word => exact execEngineReset_effect h
  | dispatchMode mode => cases h; exact .control (controlFields_getLsbD_one ..)
  | noticeMode mode => cases h; exact .control (controlFields_getLsbD_one ..)
  | messageEnable on => cases h; exact .control (controlFields_getLsbD_one ..)
  | areaWrite which value => cases h; exact .area
  | statusWrite value => exact execStatusWrite_effect h
  | take offset size => exact execTake_effect h
  | endAny source => cases h; exact .noticed s.notice.endAny_changed
  | endAnyRotate source => cases h; exact .noticed s.notice.endAnyRotate_changed
  | endSource source => cases h; exact .noticed_source s.notice.endSource_changed
  | lowest source => cases h; exact .noticed_source s.notice.setLowest_changed
  | mask source => cases h; exact .noticed_source fun x => s.notice.setMask_changed x true
  | unmask source => cases h; exact .noticed_source fun x => s.notice.setMask_changed x false
  | unmappedWrite offset size value => exact absurd rfl (mapped offset size value)
  | coldReset cause => cases h; exact .coldReset
  | holdoffTick lane => cases h; exact timerEvent_effect .ticked
  | holdoffUnderflow lane => cases h; exact timerEvent_effect .underflowed
  | message outlet => cases h; exact .message
  | hostHalfReadDone lane result => exact execHostHalfReadDone_effect h
  | startRecordWriteDone lane result => exact execStartRecordWriteDone_effect h
  | linkReadDone lane result => exact execLinkReadDone_effect h
  | stateWordReadDone lane result => exact execStateWordReadDone_effect h
  | docketReadDone lane result => exact execDocketReadDone_effect h
  | claimDone lane result => exact execClaimDone_effect h
  | skipWriteDone lane result => exact execSkipWriteDone_effect h
  | resultSectionWriteDone lane result => exact execResultSectionWriteDone_effect h
  | stateWordWriteDone lane result => exact execStateWordWriteDone_effect h
  | reportRecordWriteDone lane result => exact execReportRecordWriteDone_effect h
  | stopRecordWriteDone lane result => exact execStopRecordWriteDone_effect h
  | faultRecordWriteDone lane result => exact execFaultRecordWriteDone_effect h
  | stageNow lane => exact execStageNow_effect h
  | stageAtOpen lane => exact execStageAtOpen_effect h
  | stageCancel lane => exact execStageCancel_effect h
  | openBundle lane => exact execOpenBundle_effect h
  | snapshot unit => exact execSnapshot_effect h
  | sourceReadDone unit row off result => exact execSourceReadDone_effect h
  | outputWriteDone unit index result => exact execOutputWriteDone_effect h

/-- A window write does what some other command does (R168). -/
theorem windowWrite_effect (s : State) (offset size : Nat) (v : Word) :
    ∃ c, s.Effect c (windowWrite s offset size v) := by
  have mapped {c : Instr} {t : State} (h : exec c s = .next t) (hc : ∀ o z v, c ≠ .unmappedWrite o z v) :
      ∃ c, s.Effect c t := ⟨c, exec_effect_of_mapped hc h⟩
  have drops : ∃ c, s.Effect c s.drop := ⟨.message ⟨false, false, false, 0, 0⟩, .dropped⟩
  unfold windowWrite
  split
  · unfold State.writeRegister
    split
    · exact ⟨.statusWrite v, .kept⟩
    · obtain ⟨-, e⟩ | ⟨-, e⟩ := s.writeControl_cases v <;> rw [e]
      · exact ⟨.engineReset v, .engineReset⟩
      · exact ⟨.runSet v, .controlled⟩
    · exact ⟨.areaWrite .low v, .area⟩
    · exact ⟨.areaWrite .high v, .area⟩
    · unfold State.writeLane
      split
      · exact mapped (c := .start _) rfl nofun
      · exact mapped (c := .stop _) rfl nofun
      · exact mapped (c := .post _) rfl nofun
      · exact drops
    · unfold State.writeNotice
      dsimp only
      split
      · exact mapped (c := .endAny 0) rfl nofun
      · exact mapped (c := .endAnyRotate 0) rfl nofun
      · exact mapped (c := .endSource _) rfl nofun
      · exact mapped (c := .lowest _) rfl nofun
      · exact mapped (c := .mask _) rfl nofun
      · exact mapped (c := .unmask _) rfl nofun
      · exact drops
    · exact mapped (c := .statusWrite v) rfl nofun
    · exact drops
  · exact drops

/-- A window write that carries no operation of another row is dropped, or has no effect (R168, R172, R173). -/
theorem windowWrite_of_not_carried (s : State) {offset size : Nat} {v : Word}
    (h : ¬ (size = 4 ∧ offset % 4 = 0 ∧ carriesOperation offset v = true)) :
    windowWrite s offset size v = s.drop ∨ offset = 0x000 ∧ windowWrite s offset size v = s := by
  unfold windowWrite
  split
  · next word =>
    have idle : carriesOperation offset v ≠ true := fun carries => h ⟨word.1, word.2, carries⟩
    unfold State.writeRegister
    split
    · exact .inr ⟨rfl, rfl⟩
    · exact absurd rfl idle
    · exact absurd rfl idle
    · exact absurd rfl idle
    · simp only [carriesOperation, ne_eq, decide_eq_true_eq] at idle
      refine .inl ?_
      unfold State.writeLane
      split
      iterate 3 omega
      rfl
    · simp only [carriesOperation, ne_eq, decide_eq_true_eq] at idle
      refine .inl ?_
      unfold State.writeNotice
      dsimp only
      split
      iterate 6 omega
      rfl
    · exact absurd rfl idle
    · exact .inl rfl
  · exact .inl rfl

/-- A well-formed UNMAPPED_WRITE carries no operation of another row. -/
theorem not_carried_of_wellFormed {offset : BitVec 12} {size : Nat} {v : Word}
    (h : (Instr.unmappedWrite offset size v).wellFormed = true) :
    ¬ (size = 4 ∧ offset.toNat % 4 = 0 ∧ carriesOperation offset.toNat v = true) := by
  rintro ⟨width, aligned, carries⟩
  simp [Instr.wellFormed, width, aligned, carries] at h

/-- Every command has an effect, and a well-formed one its own. -/
theorem exec_effect {c : Instr} {s t : State} (h : exec c s = .next t) :
    ∃ c', s.Effect c' t ∧ (c.wellFormed = true → c' = c) := by
  by_cases mapped : ∀ offset size v, c ≠ .unmappedWrite offset size v
  · exact ⟨c, exec_effect_of_mapped mapped h, fun _ => rfl⟩
  · push Not at mapped
    obtain ⟨offset, size, v, rfl⟩ := mapped
    cases h
    by_cases wf : (Instr.unmappedWrite offset size v).wellFormed = true
    · refine ⟨_, ?_, fun _ => rfl⟩
      obtain e | ⟨-, e⟩ := windowWrite_of_not_carried s (not_carried_of_wellFormed wf) <;> rw [e]
      · exact .dropped
      · exact .kept
    · obtain ⟨c', effect⟩ := windowWrite_effect s offset.toNat size v
      exact ⟨c', effect, fun h => absurd h wf⟩

theorem State.Effect.of_exec {c : Instr} {s t : State} (wf : c.wellFormed = true) (h : exec c s = .next t) :
    s.Effect c t := by
  obtain ⟨c', effect, same⟩ := exec_effect h
  rwa [same wf] at effect

/-- A step is a microsecond on an empty queue, or an effect on the state with the queue's rest. -/
theorem step_cases {s t : State} (h : step s = .next t) :
    t = s.microsecond ∨ ∃ c rest, { s with pending := rest }.Effect c t := by
  unfold step at h
  split at h
  · obtain ⟨c, effect, -⟩ := exec_effect h
    exact .inr ⟨c, _, effect⟩
  · cases h
    exact .inl rfl

end Sys2Proof.Machine
end

section
/-! No command stops the block, and none touches the queue. -/

namespace Sys2Proof.Machine

/-- Every branch of every meaning is a next state. -/
theorem exec_completes (c : Instr) (s : State) : ∃ t, exec c s = .next t := by
  cases c <;>
    dsimp only [exec, execStart, execStop, execPost, execRunSet, execRunClear, execEngineReset, execDispatchMode,
      execNoticeMode, execMessageEnable, execAreaWrite, execStatusWrite, execTake, execEndAny, execEndAnyRotate,
      execEndSource, execLowest, execMask, execUnmask, execUnmappedWrite, execColdReset, execHoldoffTick,
      execHoldoffUnderflow, execMessage, execHostHalfReadDone, execStartRecordWriteDone, execLinkReadDone,
      execStateWordReadDone, execDocketReadDone, execClaimDone, execSkipWriteDone, execResultSectionWriteDone,
      execStateWordWriteDone, execReportRecordWriteDone, execStopRecordWriteDone, execFaultRecordWriteDone,
      execStageNow, execStageAtOpen, execStageCancel, execOpenBundle, execSnapshot, execSourceReadDone,
      execOutputWriteDone]
  all_goals repeat' split
  all_goals exact ⟨_, rfl⟩

/-- The Run field of a CONTROL write changes the engine state and the dropped flag alone (R171). -/
theorem State.writeRun_eq (s : State) (run : Bool) :
    ∃ engine dropped, s.writeRun run = { s with engine := engine, dropped := dropped } := by
  obtain e | e | ⟨-, -, -, e⟩ | ⟨-, -, -, e⟩ := s.writeRun_cases run <;> rw [e] <;> exact ⟨_, _, rfl⟩

/-- An AREA write changes AREA and the dropped flag alone (R169). -/
theorem State.writeArea_eq (s : State) (which : AreaWord) (v : Word) :
    ∃ a dropped, s.writeArea which v = { s with area := a, dropped := dropped } := by
  obtain ⟨-, e⟩ | ⟨-, a, e⟩ := s.writeArea_cases which v <;> rw [e] <;> exact ⟨_, _, rfl⟩

theorem State.Effect.pending {c : Instr} {s t : State} (h : s.Effect c t) : t.pending = s.pending := by
  cases h
  case controlled w run =>
    obtain ⟨_, _, e⟩ := (s.writeModes w).writeRun_eq run
    rw [e]
    rfl
  case area which v =>
    obtain ⟨_, _, e⟩ := s.writeArea_eq which v
    rw [e]
  case asksUnit => exact (State.requestUnit_beside ..).pending
  case unit => exact (State.putUnit_beside ..).pending
  all_goals rfl

/-- Settles O3: every branch of every meaning is a next state, and no effect has a hand in the queue. -/
theorem everyCommandCompletesAndKeepsTheQueue : Obligations.EveryCommandCompletesAndKeepsTheQueue := by
  intro c s
  obtain ⟨t, h⟩ := exec_completes c s
  obtain ⟨c', effect, -⟩ := exec_effect h
  exact ⟨t, h, effect.pending⟩

end Sys2Proof.Machine
end

section
/-! A 32-bit write at a register's offset and the command it carries. -/

namespace Sys2Proof.Machine

/-- A CONTROL write reads the bits of its five fields alone (R170). -/
theorem State.writeControl_congr (s : State) {w w' : Word} (h : ∀ i ∈ [0, 1, 4, 5, 8], w.getLsbD i = w'.getLsbD i) :
    s.writeControl w = s.writeControl w' := by
  simp only [List.forall_mem_cons] at h
  obtain ⟨run, reset, dispatch, mode, enable, -⟩ := h
  simp only [State.writeControl, run, reset, dispatch, mode, enable]

/-- Settles O14: the LANE and NOTICE writes route by their second byte, and a CONTROL word forced in the bits that
name its row is the same write. -/
theorem windowWritesCarryTheCommands : Obligations.WindowWritesCarryTheCommands := by
  intro s w source
  have lane : windowWrite s 0x018 4 w = s.writeLane w := rfl
  have notice : windowWrite s 0x020 4 w = s.writeNotice w := rfl
  have control : windowWrite s 0x008 4 w = s.writeControl w := rfl
  rw [lane, notice, control]
  refine ⟨fun h => ?_, fun h => ?_, fun h => ?_, fun h => ?_, fun h => ?_, fun h => ?_, fun h => ?_, fun h => ?_,
    fun h => ?_, fun h => ?_, fun h h' => ?_, fun h h' => ?_, rfl, rfl, rfl⟩
  iterate 3 rw [State.writeLane, h]; rfl
  iterate 6 rw [State.writeNotice, h]; rfl
  · exact congrArg Host.Outcome.next (s.writeControl_congr (by simpa using h))
  · exact congrArg Host.Outcome.next (s.writeControl_congr (by simpa using And.intro h' h))
  · exact congrArg Host.Outcome.next (s.writeControl_congr (by simpa using And.intro h' h))

end Sys2Proof.Machine
end

section
/-! The lanes' shapes, flags and timers: every event of a lane keeps them. -/

namespace Sys2Proof.Machine

/-! ### Holdoff timers -/

section

variable {t : Timer}

theorem Timer.Valid.rest (h : t.Valid) : t.rest.Valid := by
  obtain ⟨threshold, reload, prescale, counter, held, off, oneshot⟩ := h
  exact ⟨threshold, reload, prescale, counter, by rw [Timer.rest_held]; exact threshold.1, fun _ => ⟨rfl, rfl⟩, nofun⟩

theorem Timer.Valid.freeze (h : t.Valid) : t.freeze.Valid := by
  obtain ⟨threshold, reload, prescale, counter, held, off, -⟩ := h
  exact ⟨threshold, reload, prescale, counter, held, fun m => ⟨(off m).1, rfl⟩, nofun⟩

theorem Timer.Valid.microsecond (h : t.Valid) : t.microsecond.Valid := by
  unfold Timer.microsecond
  split
  · exact h
  · exact h

/-- A completion event: below the threshold one event more is held, and a ONESHOT timer runs to release it; else
nothing is held, and a ONESHOT timer stops (R152). -/
theorem Timer.Valid.completion (h : t.Valid) : t.completion.1.Valid := by
  obtain ⟨threshold, reload, prescale, counter, held, off, oneshot⟩ := h
  unfold Timer.completion
  cases mode : t.mode with
  | off => exact ⟨threshold, reload, prescale, counter, threshold.1, fun _ => ⟨rfl, (off mode).2⟩, by simp⟩
  | oneshot =>
    simp only
    split_ifs with released running
    · exact ⟨threshold, reload, prescale, counter, threshold.1, by simp, by simp⟩
    · exact ⟨threshold, reload, prescale, counter, Nat.lt_of_not_le released, by simp, by simp⟩
    · exact ⟨threshold, reload, prescale, reload, Nat.lt_of_not_le released, by simp [mode, Timer.load], by simp⟩
  | repeating =>
    simp only
    split_ifs with released
    · exact ⟨threshold, reload, prescale, counter, threshold.1, by simp, by simp⟩
    · exact ⟨threshold, reload, prescale, counter, Nat.lt_of_not_le released, by simp, by simp⟩

theorem Timer.Valid.underflow (h : t.Valid) : t.underflow.1.Valid := by
  obtain ⟨threshold, reload, prescale, counter, held, off, oneshot⟩ := h
  unfold Timer.underflow
  cases mode : t.mode with
  | off => exact ⟨threshold, reload, prescale, counter, held, off, oneshot⟩
  | oneshot => exact ⟨threshold, reload, prescale, counter, threshold.1, by simp, by simp⟩
  | repeating => exact ⟨threshold, reload, prescale, reload, threshold.1, by simp [mode, Timer.load], by simp [mode, Timer.load]⟩

theorem Timer.Valid.tick (h : t.Valid) : t.tick.1.Valid := by
  obtain ⟨-, e⟩ | ⟨-, -, e⟩ | ⟨-, -, e⟩ := t.tick_cases <;> rw [e]
  · exact h
  · obtain ⟨threshold, reload, prescale, counter, rest⟩ := h
    exact ⟨threshold, reload, prescale, (Nat.sub_le _ _).trans counter, rest⟩
  · exact h.underflow

theorem Timer.Valid.underflowEvent (h : t.Valid) : t.underflowEvent.1.Valid := by
  obtain ⟨-, -, e⟩ | ⟨-, e⟩ := t.underflowEvent_cases <;> rw [e]
  · exact h.underflow
  · exact h

theorem Timer.tick_of_stopped (h : t.running = false) : t.tick = (t, false) := by
  simp [Timer.tick, h]

theorem Timer.underflowEvent_of_stopped (h : t.running = false) : t.underflowEvent = (t, false) := by
  simp [Timer.underflowEvent, h]

end

/-! ### Fields of a record -/

theorem leValue_lt (bytes : List Byte) : leValue bytes < 256 ^ bytes.length := by
  induction bytes with
  | nil => exact Nat.one_pos
  | cons b bs ih =>
    rw [leValue, List.length_cons, Nat.pow_succ]
    have low := b.isLt
    omega

/-- A field of `size` bytes holds less than 256 to the `size`. -/
theorem field_lt (record : List Byte) (off size : Nat) : field record off size < 256 ^ size :=
  (leValue_lt _).trans_le (Nat.pow_le_pow_right (by decide) (List.length_take_le ..))

/-- The settings of a host half lie in their ranges (R150, R182). -/
theorem Timer.configure_valid {t : Timer} (half : List Byte) (held : t.held = 0) : (t.configure half).Valid := by
  have threshold : hostThreshold half ≤ 255 := max_le (by decide) (Nat.le_of_lt_succ (field_lt half 0x09 1))
  have reload : hostReload half ≤ 65535 := Nat.le_of_lt_succ (field_lt half 0x0C 2)
  have positive : 1 ≤ hostThreshold half := le_max_left ..
  refine ⟨⟨positive, threshold⟩, reload, min_le_left .., reload, ?_, fun mode => ⟨held, ?_⟩, fun mode runs => ?_⟩
  · show t.held < hostThreshold half
    omega
  · exact decide_eq_false fun repeats => by
      have mode : hostHoldoffMode half = .off := mode
      rw [mode] at repeats
      cases repeats
  · have mode : hostHoldoffMode half = .oneshot := mode
    have repeats : hostHoldoffMode half = .repeating := of_decide_eq_true runs
    rw [mode] at repeats
    cases repeats

end Sys2Proof.Machine
end

section
/-! The lanes' shapes, flags and timers: what each event of a lane makes of them (R10, R20 to R31). -/

namespace Sys2Proof.Machine

/-- The shape, the flags and the timer of a lane are valid. -/
abbrev Lane.ControlValid (l : Lane) : Prop :=
  l.ShapeValid ∧ l.FlagsValid ∧ l.TimerValid

/-- A lane with nothing in hand: no docket, no copy of one, no report and no request to the profile store, and no
START that waits. -/
structure Lane.Unburdened (l : Lane) : Prop where
  copy : l.copy = none
  holds : l.holds = false
  startDue : l.startDue = false
  storeRequest : l.storeRequest = none
  report : l.report = none

section

variable {l : Lane}

/-! ### What a part implies -/

theorem Lane.ShapeValid.unburdened_of_startOrCheck (h : l.ShapeValid) (part : l.part = .startOrCheck) :
    l.Unburdened := by
  obtain ⟨startOrCheck, -, -, -, due, -, -, -, store, report, holds, -⟩ := h
  constructor <;> grind

theorem Lane.ShapeValid.unburdened_of_waiting (h : l.ShapeValid) (state : l.state = .waiting) : l.Unburdened := by
  obtain ⟨-, -, -, -, due, -, -, waiting, store, report, holds, copy⟩ := h
  constructor <;> grind

theorem Lane.ShapeValid.unburdened_of_claim (h : l.ShapeValid) (part : l.part = .claim) :
    { l with copy := none }.Unburdened := by
  obtain ⟨-, claim, -, -, due, -, -, -, store, report, holds, -⟩ := h
  constructor <;> grind

/-- A lane at rest has nothing in hand. -/
theorem Lane.ShapeValid.unburdened_of_rest (h : l.ShapeValid) (rest : l.state.isRest = true) : l.Unburdened := by
  obtain ⟨-, -, reporting, restPart, due, isRest, -, -, store, report, holds, copy⟩ := h
  have idle : l.state ≠ .checking ∧ l.state ≠ .holding ∧ l.state ≠ .active := by
    refine ⟨?_, ?_, ?_⟩ <;> intro e <;> rw [e] at rest <;> cases rest
  constructor <;> grind

/-! ### Valid lanes from what they have in hand -/

/-- A lane with nothing in hand has a valid shape when its state agrees with the part its request belongs to. -/
theorem Lane.Unburdened.shape (h : l.Unburdened)
    (agrees : l.part = .startOrCheck ∧ l.state = .checking ∨ l.part = .rest ∧ (l.state = .stopped ∨ l.state = .faulted) ∨
      l.part = .nothing) : l.ShapeValid := by
  obtain ⟨copy, holds, startDue, storeRequest, report⟩ := h
  refine ⟨?_, ?_, ?_, ?_, ?_, ?_, ?_, ?_, ?_, ?_, ?_, ?_⟩ <;> grind [LaneState.isRest]

theorem Lane.checking_controlValid (h : l.Unburdened) (state : l.state = .checking) (part : l.part = .startOrCheck)
    (timer : l.timer.Valid)
    (quiet : l.readingHostHalf = true → l.timer.held = 0 ∧ l.timer.running = false) : l.ControlValid := by
  refine ⟨h.shape (.inl ⟨part, state⟩), fun e => ?_, timer, fun e => ?_⟩
  · simp [state, LaneState.isRest] at e
  · obtain e | e | e := e
    · simp [state, LaneState.isRest] at e
    · simp [h.startDue] at e
    · exact quiet e

theorem Lane.Unburdened.beginCheck (h : l.Unburdened) (timer : l.timer.Valid) (area : Addr) (n : LaneNo) :
    (l.beginCheck area n).ControlValid :=
  Lane.checking_controlValid ⟨h.copy, h.holds, h.startDue, h.storeRequest, h.report⟩ rfl rfl timer nofun

theorem Lane.Unburdened.enterStopped (h : l.Unburdened) (timer : l.timer.Valid) (area : Addr) (n : LaneNo) :
    (l.enterStopped area n).ControlValid :=
  ⟨Lane.Unburdened.shape ⟨h.copy, h.holds, h.startDue, h.storeRequest, h.report⟩ (.inr (.inl ⟨rfl, .inl rfl⟩)),
    fun _ => ⟨rfl, rfl⟩, timer.rest, fun _ => ⟨rfl, rfl⟩⟩

theorem Lane.fault_controlValid (startDue : l.startDue = false) (timer : l.timer.Valid) (area : Addr) (n : LaneNo)
    (code : FaultCode) (docket : Addr) : (l.fault area n code docket).ControlValid :=
  ⟨Lane.Unburdened.shape ⟨rfl, rfl, startDue, rfl, rfl⟩ (.inr (.inl ⟨rfl, .inr rfl⟩)),
    fun _ => ⟨rfl, rfl⟩, timer.rest, fun _ => ⟨rfl, rfl⟩⟩

theorem Lane.Unburdened.checkBoundary (h : l.Unburdened) (timer : l.timer.Valid) (area : Addr) (n : LaneNo) :
    (l.checkBoundary area n).ControlValid := by
  obtain ⟨-, e⟩ | ⟨-, e⟩ := l.checkBoundary_cases area n <;> rw [e]
  · exact h.enterStopped timer area n
  · exact h.beginCheck timer area n

theorem Lane.Unburdened.findNothing (h : l.Unburdened) (timer : l.timer.Valid) (area : Addr) (n : LaneNo) :
    (l.findNothing area n).ControlValid := by
  obtain ⟨-, e⟩ | ⟨-, -, e⟩ | ⟨latch, stop, e⟩ := l.findNothing_cases area n <;> rw [e]
  · exact h.checkBoundary timer area n
  · exact h.enterStopped timer area n
  · refine ⟨Lane.Unburdened.shape ⟨h.copy, h.holds, h.startDue, h.storeRequest, h.report⟩ (.inr (.inr rfl)),
      fun _ => ⟨latch, stop⟩, timer, fun e => ?_⟩
    simp [LaneState.isRest, h.startDue, Lane.readingHostHalf] at e

/-- A report begun of the docket the lane holds (R16). -/
theorem Lane.beginReport_controlValid (holds : l.holds = true) (startDue : l.startDue = false) (timer : l.timer.Valid)
    (r : Report) : (l.beginReport r).ControlValid := by
  refine ⟨⟨nofun, nofun, fun _ => ⟨rfl, nofun, holds⟩, nofun, fun e => ?_, nofun, nofun, nofun, nofun, fun _ => rfl,
    fun _ => .inr rfl, fun _ => .inr (.inr rfl)⟩, nofun, timer, fun e => ?_⟩
  · exact absurd (startDue.symm.trans e) nofun
  · simp [Lane.beginReport, LaneState.isRest, startDue, Lane.readingHostHalf] at e

/-- A request to the profile store for the docket the lane holds (R29, R120). -/
theorem Lane.askStore_controlValid (holds : l.holds = true) (startDue : l.startDue = false) (report : l.report = none)
    (timer : l.timer.Valid) (r : StoreRequest) : (l.askStore r).ControlValid := by
  refine ⟨⟨nofun, nofun, nofun, nofun, fun e => ?_, nofun, nofun, nofun, fun _ => ⟨rfl, holds, rfl⟩,
    fun e => absurd report e, fun _ => .inr rfl, fun _ => .inr (.inr rfl)⟩, nofun, timer, fun e => ?_⟩
  · exact absurd (startDue.symm.trans e) nofun
  · simp [Lane.askStore, LaneState.isRest, startDue, Lane.readingHostHalf] at e

/-- A lane that has handed its docket on, to the request set or to a unit (R28, R40). -/
theorem Lane.HandedOn.controlValid {state : LaneState} (h : l.HandedOn state) (on : state = .holding ∨ state = .active)
    (timer : l.timer.Valid) : l.ControlValid := by
  obtain ⟨hstate, holds, request, storeRequest, report, startDue⟩ := h
  have part : l.part = .nothing := by simp [Lane.part, request]
  have on : l.state = .holding ∨ l.state = .active := hstate ▸ on
  have working : l.state.isRest = false ∧ l.state ≠ .waiting ∧ l.state ≠ .idle := by
    obtain e | e := on <;> rw [e] <;> exact ⟨rfl, nofun, nofun⟩
  refine ⟨⟨?_, ?_, ?_, ?_, ?_, ?_, ?_, ?_, ?_, ?_, ?_, ?_⟩, ?_, timer, ?_⟩
  all_goals simp [part, startDue, storeRequest, report, on, working, Lane.readingHostHalf, request]

end

end Sys2Proof.Machine
end

section
/-! Every event of a lane keeps its shape, flags and timer. -/

namespace Sys2Proof.Machine

/-- A lane with nothing in flight is one with no request. -/
theorem Lane.part_eq_nothing_iff {l : Lane} : l.part = .nothing ↔ l.request = none := by
  constructor
  · intro h
    unfold Lane.part at h
    split at h <;> first | assumption | cases h
  · intro h
    simp [Lane.part, h]

section

variable {l l' : Lane} {area : Addr} {n : LaneNo} {epoch : Nat} {c : Instr} {running : Prop}

/-! ### The actions of LANE and the ticks -/

/-- A START at rest reads the host half, or waits in CHECKING for the write of the entry to rest (R23, R27, R34). -/
theorem Lane.ControlValid.startSequence (h : l.ControlValid) (rest : l.state.isRest = true) :
    (l.startSequence area n).ControlValid := by
  obtain ⟨shape, -, timer, quiet⟩ := h
  have bare := shape.unburdened_of_rest rest
  have quiet := quiet (.inl rest)
  obtain ⟨-, -, -, -, -, isRest, -⟩ := shape
  unfold Lane.startSequence
  dsimp only
  split
  · next writing =>
    have part : l.part = .rest := (isRest rest).resolve_left fun idle => by
      simp [Lane.recordWriteInFlight, Lane.part_eq_nothing_iff.1 idle] at writing
    refine ⟨⟨fun e => (nomatch part.symm.trans e), fun e => (nomatch part.symm.trans e),
      fun e => (nomatch part.symm.trans e), fun _ => ⟨bare.copy, .inr (.inr ⟨rfl, rfl⟩)⟩, fun _ => ⟨part, rfl⟩, nofun,
      nofun, nofun, ?_, ?_, ?_, ?_⟩, nofun, timer, fun _ => quiet⟩
    all_goals simp [bare.copy, bare.holds, bare.storeRequest, bare.report]
  · exact Lane.checking_controlValid ⟨bare.copy, bare.holds, rfl, bare.storeRequest, bare.report⟩ rfl rfl timer
      fun _ => quiet

/-- An action of LANE that sets a flag of a working lane (R22). -/
theorem Lane.ControlValid.flags (h : l.ControlValid) (latch stop : Bool)
    (working : l.state = .checking ∨ l.state = .holding ∨ l.state = .active) :
    { l with postLatch := latch, stopPending := stop }.ControlValid := by
  obtain ⟨shape, -, timer⟩ := h
  refine ⟨shape, fun idle => ?_, timer⟩
  obtain e | e | e := working <;> simp [e, LaneState.isRest] at idle

/-- A timer event keeps the lane, and a timer that is stopped. -/
theorem Lane.ControlValid.timerEvent (h : l.ControlValid) {t : Timer} (valid : l.timer.Valid → t.Valid)
    (stopped : l.timer.running = false → t = l.timer) : { l with timer := t }.ControlValid := by
  obtain ⟨shape, flags, timer, quiet⟩ := h
  refine ⟨shape, flags, valid timer, fun e => ?_⟩
  have quiet := quiet e
  rw [stopped quiet.2]
  exact quiet

theorem Lane.Event.controlValid (e : l.Event area n running c l') (h : l.ControlValid) : l'.ControlValid := by
  obtain ⟨shape, flags, timer, -⟩ := id h
  cases e with
  | started =>
    obtain ⟨rest, e⟩ | ⟨waiting, e⟩ | ⟨working, e⟩ := l.takeStart_cases area n <;> rw [e]
    · exact h.startSequence rest
    · exact (shape.unburdened_of_waiting waiting).checkBoundary timer area n
    · exact h.flags true _ working
  | stopped =>
    obtain ⟨rest, e⟩ | ⟨waiting, e⟩ | ⟨working, e⟩ := l.takeStop_cases area n <;> rw [e]
    · exact h
    · exact (shape.unburdened_of_waiting waiting).enterStopped timer area n
    · exact h.flags _ true working
  | posted =>
    obtain ⟨rest, e⟩ | ⟨waiting, e⟩ | ⟨working, e⟩ := l.takePost_cases area n <;> rw [e]
    · exact h
    · exact (shape.unburdened_of_waiting waiting).checkBoundary timer area n
    · exact h.flags true _ working
  | ticked => exact h.timerEvent .tick fun stopped => by rw [Timer.tick_of_stopped stopped]
  | underflowed => exact h.timerEvent .underflowEvent fun stopped => by rw [Timer.underflowEvent_of_stopped stopped]

/-! ### The ends of a lane's requests -/

/-- The host half read: the settings are taken, and the timer holds nothing (R23). -/
theorem Lane.ControlValid.configured (h : l.ControlValid) {a : Addr} (request : l.request = some (.hostHalfRead a))
    (half : List Byte) :
    ({ l with timer := l.timer.configure half, condition := .running }.writeRecord area n .start).ControlValid := by
  obtain ⟨shape, -, -, quiet⟩ := h
  have part : l.part = .startOrCheck := Lane.part_of_request request
  have bare := shape.unburdened_of_startOrCheck part
  have held : l.timer.held = 0 := (quiet (.inr (.inr (by simp [Lane.readingHostHalf, request])))).1
  exact Lane.checking_controlValid ⟨bare.copy, bare.holds, bare.startDue, bare.storeRequest, bare.report⟩
    (shape.1 part).1 rfl (Timer.configure_valid half held) nofun

/-- A check goes on with another request, which is not the host-half read (R9). -/
theorem Lane.ControlValid.goesOn (h : l.ControlValid) (part : l.part = .startOrCheck) {r : LaneRequest}
    (request : r.part = .startOrCheck) (noHostHalf : ∀ a, r ≠ .hostHalfRead a) (docket : Addr) :
    { l with docket := docket, request := some r }.ControlValid := by
  obtain ⟨shape, -, timer, -⟩ := h
  have bare := shape.unburdened_of_startOrCheck part
  refine Lane.checking_controlValid ⟨bare.copy, bare.holds, bare.startDue, bare.storeRequest, bare.report⟩
    (shape.1 part).1 ((Lane.part_of_request rfl).trans request) timer fun reading => ?_
  cases r <;> simp [Lane.readingHostHalf] at reading noHostHalf

/-- The docket copy is taken and the claim issued (R9, R10). -/
theorem Lane.ControlValid.copied (h : l.ControlValid) (part : l.part = .startOrCheck) (copy : List Byte) (v w : Word) :
    { l with copy := some copy, request := some (.claim l.docket v w) }.ControlValid := by
  obtain ⟨shape, -, timer, -⟩ := h
  have bare := shape.unburdened_of_startOrCheck part
  have state := (shape.1 part).1
  refine ⟨⟨nofun, fun _ => ⟨state, nofun⟩, nofun, nofun, ?_, ?_, ?_, ?_, ?_, ?_, ?_, fun _ => .inl rfl⟩, ?_, timer, ?_⟩
  all_goals simp [state, bare.holds, bare.startDue, bare.storeRequest, bare.report, LaneState.isRest,
    Lane.readingHostHalf]

/-- A WITHDRAWN docket found by the check, or by its claim, is skipped (R12). -/
theorem Lane.ControlValid.skip (h : l.ControlValid) (part : l.part = .startOrCheck ∨ l.part = .claim) :
    (l.skip area n).ControlValid := by
  obtain ⟨shape, -, timer, -⟩ := h
  have state : l.state = .checking := part.elim (fun e => (shape.1 e).1) fun e => (shape.2.1 e).1
  have bare : { l with copy := none }.Unburdened := by
    obtain e | e := part
    · have bare := shape.unburdened_of_startOrCheck e
      exact ⟨rfl, bare.holds, bare.startDue, bare.storeRequest, bare.report⟩
    · exact shape.unburdened_of_claim e
  exact Lane.checking_controlValid ⟨rfl, bare.holds, bare.startDue, bare.storeRequest, bare.report⟩ state rfl timer nofun

/-- A report goes on: its state word follows its result section (R16). -/
theorem Lane.ControlValid.resultWritten (h : l.ControlValid) {a : Addr} {bytes : List Byte}
    (request : l.request = some (.resultWrite a bytes)) (w : Word) :
    { l with request := some (.stateWordWrite l.docket w) }.ControlValid := by
  obtain ⟨⟨-, -, reporting, -, due, -, -, -, store, -, -, -⟩, -, timer, -⟩ := h
  have part : l.part = .report := Lane.part_of_request request
  obtain ⟨state, report, holds⟩ := reporting part
  have holds : l.holds = true := by simpa [Lane.writingReportRecord, request] using holds
  have startDue : l.startDue = false := by grind
  have storeRequest : l.storeRequest = none := by grind
  refine ⟨⟨nofun, nofun, fun _ => ⟨state, report, holds⟩, nofun, ?_, ?_, ?_, ?_, ?_, fun _ => rfl, fun _ => .inr state,
    fun _ => .inr (.inr state)⟩, ?_, timer, ?_⟩
  all_goals simp [state, startDue, storeRequest, LaneState.isRest, Lane.readingHostHalf]

/-- Step 3 of a report: the lane stops holding the docket and writes its device half (R31). -/
theorem Lane.ControlValid.finishDocket (h : l.ControlValid) {a : Addr} {v : Word}
    (request : l.request = some (.stateWordWrite a v)) (change : BundleChange) :
    (l.finishDocket area n change).ControlValid := by
  obtain ⟨⟨-, -, reporting, -, due, -, -, -, store, -, -, -⟩, -, timer, -⟩ := h
  have part : l.part = .report := Lane.part_of_request request
  obtain ⟨state, report, holds⟩ := reporting part
  have startDue : l.startDue = false := by grind
  have storeRequest : l.storeRequest = none := by grind
  refine ⟨⟨nofun, nofun, fun _ => ⟨state, report, rfl⟩, nofun, ?_, ?_, ?_, ?_, ?_, fun _ => rfl, nofun,
    fun _ => .inr (.inr state)⟩, ?_, timer, ?_⟩
  all_goals simp [Lane.finishDocket, Lane.writeRecord, state, startDue, storeRequest, LaneState.isRest,
    Lane.readingHostHalf]

/-- The end of a report: nothing is left in hand (R16, R31). -/
theorem Lane.ControlValid.unburdened_of_reported (h : l.ControlValid) {a : Addr} {bytes : List Byte}
    (request : l.request = some (.recordWrite .report a bytes)) (t : Timer) :
    { l with timer := t, copy := none, report := none }.Unburdened := by
  obtain ⟨⟨-, -, reporting, -, due, -, -, -, store, -, -, -⟩, -⟩ := h
  have part : l.part = .report := Lane.part_of_request request
  obtain ⟨-, -, holds⟩ := reporting part
  have holds : l.holds = false := by simpa [Lane.writingReportRecord, request] using holds
  have bare : l.startDue = false ∧ l.storeRequest = none := by grind
  exact ⟨rfl, holds, bare.1, bare.2, rfl⟩

/-- The write of an entry to rest has ended, and a START that waited for it reads the host half (R27, R34). -/
theorem Lane.ControlValid.restarted (h : l.ControlValid) (due : l.startDue = true) :
    (l.readHostHalf area n).ControlValid := by
  obtain ⟨⟨-, -, -, resting, startDue, -, -, -, store, report, holds, -⟩, -, timer, quiet⟩ := h
  obtain ⟨part, state⟩ := startDue due
  have bare : l.holds = false ∧ l.storeRequest = none ∧ l.report = none := by grind
  exact Lane.checking_controlValid ⟨(resting part).1, bare.1, rfl, bare.2.1, bare.2.2⟩ state rfl timer
    fun _ => quiet (.inr (.inl due))

/-- The write of an entry to rest has ended, and the lane rests (R27, R34). -/
theorem Lane.ControlValid.rested (h : l.ControlValid) (part : l.part = .rest) (due : l.startDue = false) :
    { l with request := none }.ControlValid := by
  obtain ⟨⟨-, -, -, resting, -, -, -, -, store, report, holds, -⟩, flags, timer, quiet⟩ := h
  obtain ⟨copy, rest⟩ := resting part
  have rest : l.state = .stopped ∨ l.state = .faulted := by simpa [due] using rest
  have isRest : l.state.isRest = true := by obtain e | e := rest <;> rw [e] <;> rfl
  have bare : l.holds = false ∧ l.storeRequest = none ∧ l.report = none := by grind
  exact ⟨Lane.Unburdened.shape ⟨copy, bare.1, due, bare.2.1, bare.2.2⟩ (.inr (.inr rfl)), flags, timer,
    fun _ => quiet (.inl isRest)⟩

theorem Lane.RequestEnd.controlValid (e : l.RequestEnd area epoch n c l') (h : l.ControlValid) : l'.ControlValid := by
  obtain ⟨shape, -, timer, -⟩ := id h
  cases e with
  | configured request => exact h.configured request _
  | faulted busy working =>
    refine Lane.fault_controlValid (Bool.eq_false_iff.2 fun due => working ?_) timer ..
    exact (shape.2.2.2.2.1 due).1
  | atBoundary request =>
    have part : l.part = .startOrCheck := request.elim Lane.part_of_request Lane.part_of_request
    exact (shape.unburdened_of_startOrCheck part).checkBoundary timer area n
  | foundNothing request =>
    have part : l.part = .startOrCheck := request.elim Lane.part_of_request Lane.part_of_request
    exact (shape.unburdened_of_startOrCheck part).findNothing timer area n
  | followed request => exact h.goesOn (Lane.part_of_request request) rfl (by simp) _
  | readPosted request => exact h.goesOn (Lane.part_of_request request) rfl (by simp) l.docket
  | copied request => exact h.copied (Lane.part_of_request request) ..
  | skipped working => exact h.skip working
  | reporting request =>
    have bare := shape.unburdened_of_claim (Lane.part_of_request request)
    exact Lane.beginReport_controlValid (l := { l with holds := true }) rfl bare.startDue timer _
  | asking request =>
    have bare := shape.unburdened_of_claim (Lane.part_of_request request)
    exact Lane.askStore_controlValid (l := { l with holds := true }) rfl bare.startDue bare.report timer _
  | resultWritten request => exact h.resultWritten request _
  | finished request => exact h.finishDocket request _
  | reported request => exact (h.unburdened_of_reported request _).checkBoundary timer.completion area n
  | restarted rest due => exact h.restarted due
  | rested rest due => exact h.rested rest due

end

end Sys2Proof.Machine
end

section
/-! Who holds what: the ownership of items, through the dispatcher's work and the units' (R28, R40 to R47, R58). -/

namespace Sys2Proof.Machine

/-- What a vector reads as after one entry has been put in, its places being numbers of one type. -/
theorem getElem_set_fin {α : Type} {k : Nat} (v : Vector α k) (i j : Fin k) (x : α) :
    (v.set i x)[j] = if j = i then x else v[j] := by
  by_cases same : j = i
  · subst same
    simp
  · have apart : i.val ≠ j.val := fun e => same (Fin.ext e.symm)
    simp [apart, same]

theorem State.setLane_lane (s : State) (n m : LaneNo) (l : Lane) :
    (s.setLane n l).lanes[m] = if m = n then l else s.lanes[m] := getElem_set_fin ..

theorem State.setUnit_unit (s : State) (u v : UnitNo) (r : ReductionUnit) :
    (s.setUnit u r).units[v] = if v = u then r else s.units[v] := getElem_set_fin ..

/-! ### Ownership while the dispatcher works -/

/-- The lanes are valid and the units and the request set belong to them, while units may stand before their
admission checks. -/
structure State.Owned (s : State) : Prop where
  lanes : ∀ n : LaneNo, s.lanes[n].ControlValid
  bound : ∀ (u : UnitNo) (n : LaneNo), s.units[u].lane? = some n → s.lanes[n].HandedOn .active
  asks : ∀ n : LaneNo, s.requests[n] = true → s.lanes[n].HandedOn .holding
  asked : s.engine = .running → ∀ n : LaneNo, s.lanes[n].state = .holding → s.requests[n] = true
  apart : ∀ (u v : UnitNo) (n : LaneNo), s.units[u].lane? = some n → s.units[v].lane? = some n → u = v

theorem unitNo_cases : ∀ u : UnitNo, u = 0 ∨ u = 1 := by decide

theorem State.ControlValid.owned {s : State} (h : s.ControlValid) : s.Owned := by
  obtain ⟨lanes, ⟨bound, asks, asked, apart, -⟩, -⟩ := h
  refine ⟨lanes, bound, asks, asked, fun u v n hu hv => ?_⟩
  obtain rfl | rfl := unitNo_cases u <;> obtain rfl | rfl := unitNo_cases v
  · rfl
  · exact absurd hv (apart n hu)
  · exact absurd hu (apart n hv)
  · rfl

theorem State.Owned.ownershipValid {s : State} (h : s.Owned) (settled : ∀ u : UnitNo, s.units[u].settled = true) :
    s.OwnershipValid :=
  ⟨h.bound, h.asks, h.asked, fun n h0 h1 => absurd (h.apart 0 1 n h0 h1) (by decide), settled⟩

/-- No lane is on a unit and asks for one. -/
theorem Lane.HandedOn.ne {l : Lane} {a b : LaneState} (h : l.HandedOn a) (h' : l.HandedOn b) : a = b :=
  h.1.symm.trans h'.1

section

variable {s : State}

/-- A lane changed: it keeps what it has handed on, and does not come to wait for a unit. -/
theorem State.Owned.setLane (h : s.Owned) (n : LaneNo) {l : Lane} (valid : l.ControlValid)
    (keeps : ∀ state, state = .holding ∨ state = .active → s.lanes[n].HandedOn state → l.HandedOn state)
    (waits : l.state = .holding → s.lanes[n].state = .holding) : (s.setLane n l).Owned := by
  refine ⟨fun m => ?_, fun u m hu => ?_, fun m hm => ?_, fun running m hm => ?_, h.apart⟩
  all_goals rw [State.setLane_lane] at *
  all_goals by_cases same : m = n
  · rwa [if_pos same]
  · rw [if_neg same]
    exact h.lanes m
  · rw [if_pos same]
    exact keeps _ (.inr rfl) (same ▸ h.bound u m hu)
  · rw [if_neg same]
    exact h.bound u m hu
  · rw [if_pos same]
    exact keeps _ (.inl rfl) (same ▸ h.asks m hm)
  · rw [if_neg same]
    exact h.asks m hm
  · rw [if_pos same] at hm
    exact h.asked running m (same ▸ waits hm)
  · rw [if_neg same] at hm
    exact h.asked running m hm

/-- The lane of a unit reports its item: the unit is IDLE, and the lane has its docket in hand again. -/
theorem State.Owned.release (h : s.Owned) {u : UnitNo} {n : LaneNo} (bound : s.units[u].lane? = some n) (r : Report) :
    ((s.setUnit u .idle).setLane n (s.lanes[n].beginReport r)).Owned := by
  have on := h.bound u n bound
  obtain ⟨state, holds, request, storeRequest, report, startDue⟩ := id on
  have valid := Lane.beginReport_controlValid holds startDue (h.lanes n).2.2.1 r
  have others {v : UnitNo} {m : LaneNo} (hv : (s.setUnit u .idle).units[v].lane? = some m) :
      v ≠ u ∧ s.units[v].lane? = some m := by
    rw [State.setUnit_unit] at hv
    split at hv
    · cases hv
    · next other => exact ⟨other, hv⟩
  refine ⟨fun m => ?_, fun v m hv => ?_, fun m hm => ?_, fun running m hm => ?_, fun v w m hv hw =>
    h.apart v w m (others hv).2 (others hw).2⟩
  · rw [State.setLane_lane]
    split
    · exact valid
    · exact h.lanes m
  · obtain ⟨other, hv⟩ := others hv
    rw [State.setLane_lane, if_neg]
    · exact h.bound v m hv
    · rintro rfl
      exact other (h.apart v u m hv bound)
  · rw [State.setLane_lane, if_neg]
    · exact h.asks m hm
    · rintro rfl
      cases on.ne (h.asks m hm)
  · rw [State.setLane_lane] at hm
    split at hm
    · cases hm
    · exact h.asked running m hm

/-- A unit goes on with the item of its lane. -/
theorem State.Owned.setUnit (h : s.Owned) (u : UnitNo) {r : ReductionUnit} (same : r.lane? = s.units[u].lane?) :
    (s.setUnit u r).Owned := by
  have lane (v : UnitNo) : (s.setUnit u r).units[v].lane? = s.units[v].lane? := by
    rw [State.setUnit_unit]
    split
    · next e => rw [same, e]
    · rfl
  exact ⟨h.lanes, fun v n hv => h.bound v n (lane v ▸ hv), h.asks, h.asked,
    fun v w n hv hw => h.apart v w n (lane v ▸ hv) (lane w ▸ hw)⟩

/-! ### The dispatcher -/

/-- Whether a unit is not composing: it is settled, or its admission checks are to be run. -/
def ReductionUnit.Placed (u : ReductionUnit) : Prop :=
  u.settled = true ∨ ∃ n copy, u = .admitting n copy none

theorem State.freeUnit_idle {u : UnitNo} (h : s.freeUnit = some u) : s.units[u] = .idle := by
  have idle := s.freeUnit_isIdle u h
  cases e : s.units[u] <;> rw [e] at idle <;> first | rfl | cases idle

/-- A grant moves a lane's item from the request set onto an IDLE unit (R41). -/
theorem State.Owned.grant (h : s.Owned) {s' : State} (grant : s.grant = some s') : s'.Owned := by
  obtain ⟨running, u, n, free, winner, rfl⟩ := s.grant_cases s' grant
  have idle := State.freeUnit_idle free
  have wins := h.asks n (s.winner_requests n winner)
  obtain ⟨state, rest⟩ := wins
  have lane (m : LaneNo) : (s.lanes.set n { s.lanes[n] with state := .active })[m] =
      if m = n then { s.lanes[n] with state := .active } else s.lanes[m] := getElem_set_fin ..
  have unit (v : UnitNo) : (s.units.set u (.admitting n s.lanes[n].copyBytes none))[v] =
      if v = u then .admitting n s.lanes[n].copyBytes none else s.units[v] := getElem_set_fin ..
  have request (m : LaneNo) : (s.requests.set n false)[m] = if m = n then false else s.requests[m] :=
    getElem_set_fin ..
  have on : ({ s.lanes[n] with state := .active }).HandedOn .active := ⟨rfl, rest⟩
  have binds {v : UnitNo} {m : LaneNo} (hv : (if v = u then ReductionUnit.admitting n s.lanes[n].copyBytes none
      else s.units[v]).lane? = some m) : v = u ∧ m = n ∨ v ≠ u ∧ s.units[v].lane? = some m := by
    split at hv
    · next e => exact .inl ⟨e, (Option.some.inj hv).symm⟩
    · next e => exact .inr ⟨e, hv⟩
  have unbound {v : UnitNo} (hv : s.units[v].lane? = some n) : False := by
    cases (h.bound v n hv).1.symm.trans state
  refine ⟨fun m => ?_, fun v m hv => ?_, fun m hm => ?_, fun _ m hm => ?_, fun v w m hv hw => ?_⟩
  · rw [lane]
    split
    · exact Lane.HandedOn.controlValid on (.inr rfl) (h.lanes n).2.2.1
    · exact h.lanes m
  · rw [unit] at hv
    rw [lane]
    obtain ⟨-, rfl⟩ | ⟨-, hv⟩ := binds hv
    · rwa [if_pos rfl]
    · rw [if_neg fun e => unbound (e ▸ hv)]
      exact h.bound v m hv
  · rw [request] at hm
    split at hm
    · cases hm
    · next other =>
      rw [lane, if_neg other]
      exact h.asks m hm
  · rw [lane] at hm
    split at hm
    · cases hm
    · next other =>
      rw [request, if_neg other]
      exact h.asked running m hm
  · rw [unit] at hv hw
    obtain ⟨hv, mv⟩ | ⟨-, hv⟩ := binds hv <;> obtain ⟨hw, mw⟩ | ⟨-, hw⟩ := binds hw
    · exact hv.trans hw.symm
    · exact (unbound (mv ▸ hw)).elim
    · exact (unbound (mw ▸ hv)).elim
    · exact h.apart v w m hv hw

theorem State.grant_placed (placed : ∀ u : UnitNo, s.units[u].Placed) {s' : State} (grant : s.grant = some s')
    (u : UnitNo) : s'.units[u].Placed := by
  obtain ⟨-, v, n, -, -, rfl⟩ := s.grant_cases s' grant
  show ((s.units.set v (.admitting n s.lanes[n].copyBytes none))[u]).Placed
  rw [getElem_set_fin]
  split
  · exact .inr ⟨_, _, rfl⟩
  · exact placed u

theorem State.Owned.grantAll (h : s.Owned) (fuel : Nat) : (s.grantAll fuel).Owned := by
  induction fuel generalizing s with
  | zero => exact h
  | succ fuel ih =>
    unfold State.grantAll
    split
    · next grant => exact ih (h.grant grant)
    · exact h

theorem State.grantAll_placed (placed : ∀ u : UnitNo, s.units[u].Placed) (fuel : Nat) (u : UnitNo) :
    (s.grantAll fuel).units[u].Placed := by
  induction fuel generalizing s with
  | zero => exact placed u
  | succ fuel ih =>
    cases grant : s.grant with
    | none => simpa only [State.grantAll, grant] using placed u
    | some s' => simpa only [State.grantAll, grant] using ih (State.grant_placed placed grant)

theorem State.Owned.admitUnit (h : s.Owned) (u : UnitNo) : (s.admitUnit u).Owned := by
  obtain e | ⟨n, copy, unit, ⟨code, -, e⟩ | ⟨p, -, e⟩⟩ := s.admitUnit_cases u <;> rw [e]
  · exact h
  · exact h.release (by rw [unit]; rfl) _
  · exact h.setUnit u (by rw [unit]; rfl)

/-- An admission leaves the other unit as it is, and its own settled (R46, R47). -/
theorem State.admitUnit_unit (u v : UnitNo) :
    v ≠ u ∧ (s.admitUnit u).units[v] = s.units[v] ∨
      v = u ∧ (s.units[u].Placed → (s.admitUnit u).units[v].settled = true) := by
  by_cases same : v = u
  · refine .inr ⟨same, fun placed => ?_⟩
    subst same
    obtain e | ⟨n, copy, -, ⟨code, -, e⟩ | ⟨p, -, e⟩⟩ := s.admitUnit_cases v
    · obtain settled | ⟨n, copy, unit⟩ := placed
      · rwa [e]
      · unfold State.admitUnit
        rw [unit]
        dsimp only
        split
        · show ((s.setUnit v .idle).units[v]).settled = true
          rw [State.setUnit_unit, if_pos rfl]
          rfl
        · rw [State.setUnit_unit, if_pos rfl]
          rfl
    · rw [e]
      show ((s.setUnit v .idle).units[v]).settled = true
      rw [State.setUnit_unit, if_pos rfl]
      rfl
    · rw [e, State.setUnit_unit, if_pos rfl]
      rfl
  · refine .inl ⟨same, ?_⟩
    obtain e | ⟨n, copy, -, ⟨code, -, e⟩ | ⟨p, -, e⟩⟩ := s.admitUnit_cases u <;> rw [e]
    · exact s.setUnit_unit_other _ (Ne.symm same)
    · exact s.setUnit_unit_other _ (Ne.symm same)

/-- The admissions of both units leave both settled. -/
theorem State.admissions_settled (placed : ∀ u : UnitNo, s.units[u].Placed) (u : UnitNo) :
    ((s.admitUnit 0).admitUnit 1).units[u].settled = true := by
  have first (v : UnitNo) : (s.admitUnit 0).units[v].Placed := by
    obtain ⟨-, e⟩ | ⟨-, settled⟩ := s.admitUnit_unit 0 v
    · rw [e]
      exact placed v
    · exact .inl (settled (placed 0))
  obtain ⟨other, e⟩ | ⟨-, settled⟩ := (s.admitUnit 0).admitUnit_unit 1 u
  · obtain rfl | rfl := unitNo_cases u
    · rw [e]
      obtain ⟨absurd', -⟩ | ⟨-, settled⟩ := s.admitUnit_unit 0 0
      · exact absurd rfl absurd'
      · exact settled (placed 0)
    · exact absurd rfl other
  · exact settled (first 1)

theorem State.Owned.dispatchRounds (h : s.Owned) (settled : ∀ u : UnitNo, s.units[u].settled = true) (fuel : Nat) :
    (s.dispatchRounds fuel).Owned ∧ ∀ u : UnitNo, (s.dispatchRounds fuel).units[u].settled = true := by
  induction fuel generalizing s with
  | zero => exact ⟨h, settled⟩
  | succ fuel ih =>
    cases grant : s.grant with
    | none => simpa only [State.dispatchRounds, grant] using And.intro h settled
    | some s' =>
      have placed := State.grantAll_placed (State.grant_placed (fun u => .inl (settled u)) grant) 1
      simpa only [State.dispatchRounds, grant] using
        ih ((((h.grant grant).grantAll 1).admitUnit 0).admitUnit 1) (State.admissions_settled placed)

theorem State.Owned.dispatch (h : s.Owned) (settled : ∀ u : UnitNo, s.units[u].settled = true) :
    s.dispatch.OwnershipValid ∧ s.dispatch.Owned :=
  have ⟨owned, settled⟩ := h.dispatchRounds settled 9
  ⟨owned.ownershipValid settled, owned⟩

end

end Sys2Proof.Machine
end

section
/-! Every step keeps the control of the block: the lanes, the ownership of items, and what an engine that is not
RUNNING has in flight. -/

namespace Sys2Proof.Machine

/-! ### What an event of a lane keeps for the dispatcher -/

section

variable {l l' : Lane} {area : Addr} {n : LaneNo} {epoch : Nat} {c : Instr} {running : Prop}

theorem Lane.RequestEnd.busy (e : l.RequestEnd area epoch n c l') : l.request ≠ none := by
  have rest (part : l.part = .rest) : l.request ≠ none := fun idle => by
    cases part.symm.trans (Lane.part_eq_nothing_iff.2 idle)
  have claims (part : l.part = .claim) : l.request ≠ none := fun idle => by
    cases part.symm.trans (Lane.part_eq_nothing_iff.2 idle)
  cases e with
  | faulted busy => exact fun idle => busy (Lane.part_eq_nothing_iff.2 idle)
  | atBoundary request => obtain e | e := request <;> simp [e]
  | foundNothing request => obtain e | e := request <;> simp [e]
  | skipped working =>
    intro idle
    rw [Lane.part_eq_nothing_iff.2 idle] at working
    obtain e | e := working <;> cases e
  | restarted part => exact rest part
  | rested part => exact rest part
  | _ => simp [*]

theorem Lane.checkBoundary_not_holding : (l.checkBoundary area n).state ≠ .holding := by
  obtain ⟨-, e⟩ | ⟨-, e⟩ := l.checkBoundary_cases area n <;> rw [e] <;> nofun

theorem Lane.findNothing_not_holding : (l.findNothing area n).state ≠ .holding := by
  obtain ⟨-, e⟩ | ⟨-, -, e⟩ | ⟨-, -, e⟩ := l.findNothing_cases area n <;> rw [e]
  · exact Lane.checkBoundary_not_holding
  · nofun
  · nofun

theorem Lane.RequestEnd.waits (e : l.RequestEnd area epoch n c l') (h : l'.state = .holding) : l.state = .holding := by
  cases e with
  | atBoundary => exact absurd h Lane.checkBoundary_not_holding
  | foundNothing => exact absurd h Lane.findNothing_not_holding
  | reported => exact absurd h Lane.checkBoundary_not_holding
  | faulted => cases h
  | reporting => cases h
  | asking => cases h
  | _ => exact h

theorem Lane.startSequence_not_holding : (l.startSequence area n).state ≠ .holding := by
  unfold Lane.startSequence
  dsimp only
  split <;> nofun

theorem Lane.Event.waits (e : l.Event area n running c l') (h : l'.state = .holding) : l.state = .holding := by
  cases e with
  | started =>
    obtain ⟨-, e⟩ | ⟨-, e⟩ | ⟨-, e⟩ := l.takeStart_cases area n <;> rw [e] at h
    · exact absurd h Lane.startSequence_not_holding
    · exact absurd h Lane.checkBoundary_not_holding
    · exact h
  | stopped =>
    obtain ⟨-, e⟩ | ⟨-, e⟩ | ⟨-, e⟩ := l.takeStop_cases area n <;> rw [e] at h
    · exact h
    · cases h
    · exact h
  | posted =>
    obtain ⟨-, e⟩ | ⟨-, e⟩ | ⟨-, e⟩ := l.takePost_cases area n <;> rw [e] at h
    · exact h
    · exact absurd h Lane.checkBoundary_not_holding
    · exact h
  | ticked => exact h
  | underflowed => exact h

/-- A lane that has handed its docket on takes no action but the flags, and its timer goes on. -/
theorem Lane.Event.handedOn (e : l.Event area n running c l') {state : LaneState}
    (on : state = .holding ∨ state = .active) (h : l.HandedOn state) : l'.HandedOn state := by
  have working : l.state.isRest ≠ true ∧ l.state ≠ .waiting := by
    rw [h.1]
    obtain rfl | rfl := on <;> exact ⟨nofun, nofun⟩
  cases e with
  | started =>
    obtain ⟨rest, -⟩ | ⟨waiting, -⟩ | ⟨-, e⟩ := l.takeStart_cases area n
    · exact absurd rest working.1
    · exact absurd waiting working.2
    · rwa [e]
  | stopped =>
    obtain ⟨rest, -⟩ | ⟨waiting, -⟩ | ⟨-, e⟩ := l.takeStop_cases area n
    · exact absurd rest working.1
    · exact absurd waiting working.2
    · rwa [e]
  | posted =>
    obtain ⟨rest, -⟩ | ⟨waiting, -⟩ | ⟨-, e⟩ := l.takePost_cases area n
    · exact absurd rest working.1
    · exact absurd waiting working.2
    · rwa [e]
  | ticked => exact h
  | underflowed => exact h

/-- Off RUNNING only the ticks reach a lane, and they leave one whose timer is stopped as it is. -/
theorem Lane.Event.eq_of_stopped (e : l.Event area n running c l') (off : ¬ running)
    (stopped : l.timer.running = false) : l' = l := by
  cases e with
  | started _ isRunning => exact absurd isRunning off
  | stopped isRunning => exact absurd isRunning off
  | posted isRunning => exact absurd isRunning off
  | ticked => rw [Timer.tick_of_stopped stopped]
  | underflowed => rw [Timer.underflowEvent_of_stopped stopped]

end

/-! ### What an event of an attempt keeps of its unit -/

theorem frontEnds_lane (it : ItemContext) (r : SideResult) (draw : Nat) :
    (frontEnds it r draw).lane? = some it.lane := by
  unfold frontEnds
  split
  · split
    · rfl
    · dsimp only
      split <;> rfl
  · rfl

theorem ReductionUnit.settle_lane (u : ReductionUnit) (draw : Nat) : (u.settle draw).lane? = u.lane? := by
  cases u with
  | front it sd =>
    unfold ReductionUnit.settle
    dsimp only
    split
    · rfl
    · rfl
    · exact frontEnds_lane ..
  | rear it f sd =>
    unfold ReductionUnit.settle
    dsimp only
    split <;> rfl
  | _ => rfl

theorem ReductionUnit.withSide_lane (u : ReductionUnit) (sd : SideContext) : (u.withSide sd).lane? = u.lane? := by
  cases u <;> rfl

theorem ReductionUnit.RequestEnd.lane {u r : ReductionUnit} {draw : Nat} (e : u.RequestEnd draw r) :
    r.lane? = u.lane? := by
  cases e <;> rw [settle_lane, withSide_lane]

theorem ReductionUnit.settled_or_compose {r : ReductionUnit} (h : ∀ n copy, r ≠ .admitting n copy none) :
    r.settled = true ∨ ∃ it f rear, r = .compose it f rear := by
  cases r with
  | admitting n copy admitted =>
    cases admitted
    · exact absurd rfl (h n copy)
    · exact .inl rfl
  | compose it f rear => exact .inr ⟨it, f, rear, rfl⟩
  | _ => exact .inl rfl

theorem ReductionUnit.RequestEnd.attempt {u r : ReductionUnit} {draw : Nat} (e : u.RequestEnd draw r) :
    ∃ it d sd, u.attempt = some (it, d, sd) := by
  cases e with
  | read attempt => exact ⟨_, _, _, attempt⟩
  | write attempt => exact ⟨_, _, _, attempt⟩

theorem ReductionUnit.RequestEnd.not_admitting {u r : ReductionUnit} {draw : Nat} (e : u.RequestEnd draw r)
    (n : LaneNo) (copy : List Byte) : r ≠ .admitting n copy none := by
  have settles (v : ReductionUnit) (h : v.attempt ≠ none) : v.settle draw ≠ .admitting n copy none := by
    cases v with
    | front it sd =>
      unfold ReductionUnit.settle frontEnds
      dsimp only
      split
      · nofun
      · nofun
      · split
        · split
          · nofun
          · split <;> nofun
        · nofun
    | rear it f sd =>
      unfold ReductionUnit.settle
      dsimp only
      split <;> nofun
    | _ => exact absurd rfl h
  have sides (sd : SideContext) (h : u.attempt ≠ none) : (u.withSide sd).attempt ≠ none := by
    cases u <;> first | exact h | nofun
  cases e with
  | read attempt => exact settles _ (sides _ (by rw [attempt]; nofun))
  | write attempt => exact settles _ (sides _ (by rw [attempt]; nofun))

end Sys2Proof.Machine
end

section
/-! Every step keeps the control of the block: the engine states, and the invariant over every effect. -/

namespace Sys2Proof.Machine

section

variable {s t : State}

/-! ### The engine -/

/-- The invariant reads the lanes, the request set, the units and the engine state with its halt cause alone. -/
theorem State.ControlValid.congr (h : s.ControlValid) (lanes : t.lanes = s.lanes) (requests : t.requests = s.requests)
    (units : t.units = s.units) (engine : t.engine = s.engine) (cause : t.haltCause = s.haltCause) :
    t.ControlValid := by
  cases s
  cases t
  subst lanes requests units engine cause
  exact h

/-- An engine that goes on RUNNING has no halt cause. -/
theorem State.EngineValid.of_running (h : s.EngineValid) (running : s.engine = .running)
    (engine : t.engine = s.engine) (cause : t.haltCause = s.haltCause) : t.EngineValid := by
  refine ⟨by rw [cause, engine]; exact h.1, fun off => ?_, fun off => ?_⟩ <;>
    cases running.symm.trans (engine.symm.trans off)

/-- Off RUNNING every lane is frozen and no unit is bound (R36, R171). -/
theorem State.EngineValid.frozen (h : s.EngineValid) (off : s.engine ≠ .running) :
    s.UnitsIdle ∧ ∀ n : LaneNo, s.lanes[n].Frozen := by
  cases engine : s.engine with
  | disabled => exact ⟨(h.2.1 engine).1, fun n => ((h.2.1 engine).2 n).2⟩
  | running => exact absurd engine off
  | halted => exact h.2.2 engine

theorem State.EngineValid.running_of_request (h : s.EngineValid) {n : LaneNo} (busy : s.lanes[n].request ≠ none) :
    s.engine = .running :=
  not_not.1 fun off => busy ((h.frozen off).2 n).1

theorem State.EngineValid.running_of_storeRequest (h : s.EngineValid) {n : LaneNo}
    (busy : s.lanes[n].storeRequest ≠ none) : s.engine = .running :=
  not_not.1 fun off => busy ((h.frozen off).2 n).2.2.2.1

theorem State.EngineValid.running_of_unit (h : s.EngineValid) {u : UnitNo} (busy : s.units[u] ≠ .idle) :
    s.engine = .running :=
  not_not.1 fun off => busy ((h.frozen off).1.1 u)

/-- After a reset nothing is in flight (R37, R42, R60). -/
theorem State.controlValid_of_reset (engine : t.engine = .disabled) (cause : t.haltCause = .none)
    (lanes : t.lanes = Vector.replicate 8 Lane.reset) (requests : t.requests = Vector.replicate 8 false)
    (units : t.units = Vector.replicate 2 .idle) : t.ControlValid := by
  have lane (n : LaneNo) : t.lanes[n] = Lane.reset := by rw [lanes]; simp
  have request (n : LaneNo) : t.requests[n] = false := by rw [requests]; simp
  have unit (u : UnitNo) : t.units[u] = .idle := by rw [units]; simp
  have valid : Lane.reset.ControlValid :=
    ⟨Lane.Unburdened.shape ⟨rfl, rfl, rfl, rfl, rfl⟩ (.inr (.inr rfl)), fun _ => ⟨rfl, rfl⟩, by decide, fun _ => ⟨rfl, rfl⟩⟩
  have frozen : Lane.reset.Frozen := by decide
  refine ⟨fun n => lane n ▸ valid, ⟨fun u n hu => ?_, fun n hn => ?_, fun running => ?_, fun n hu => ?_, fun u => ?_⟩,
    by simp [engine, cause], fun _ => ⟨⟨unit, request⟩, fun n => lane n ▸ ⟨rfl, frozen⟩⟩, fun halted => ?_⟩
  · rw [unit] at hu
    cases hu
  · rw [request] at hn
    cases hn
  · cases engine.symm.trans running
  · rw [unit] at hu
    cases hu
  · rw [unit]
    rfl
  · cases engine.symm.trans halted

/-- A halt abandons all that is in flight and keeps the lanes' states and flags (R36, R154, R176). -/
theorem State.ControlValid.halt (h : s.ControlValid) : s.halt.ControlValid := by
  obtain ⟨lanes, -, -⟩ := h
  have lane (n : LaneNo) : s.halt.lanes[n] = s.lanes[n].freeze := by simp [State.halt]
  have unit (u : UnitNo) : s.halt.units[u] = .idle := by simp [State.halt]
  have request (n : LaneNo) : s.halt.requests[n] = false := by simp [State.halt]
  have frozen (n : LaneNo) : s.halt.lanes[n].Frozen := by
    rw [lane]
    exact ⟨rfl, rfl, rfl, rfl, rfl, rfl⟩
  refine ⟨fun n => ?_, ⟨fun u n hu => ?_, fun n hn => ?_, nofun, fun n hu => ?_, fun u => ?_⟩,
    ⟨fun _ => rfl, fun _ => rfl⟩, nofun, fun _ => ⟨⟨unit, request⟩, frozen⟩⟩
  · obtain ⟨-, flags, timer, quiet⟩ := lanes n
    rw [lane]
    refine ⟨Lane.Unburdened.shape ⟨rfl, rfl, rfl, rfl, rfl⟩ (.inr (.inr rfl)), flags, timer.freeze, fun e => ?_⟩
    obtain e | e | e := e
    · exact ⟨(quiet (.inl e)).1, rfl⟩
    · cases e
    · cases e
  · rw [unit] at hu
    cases hu
  · rw [request] at hn
    cases hn
  · rw [unit] at hu
    cases hu
  · rw [unit]
    rfl

/-- The write of an entry to rest is a device-half write (R3). -/
theorem Lane.recordWriteInFlight_of_rest {l : Lane} (rest : l.part = .rest) : l.recordWriteInFlight = true := by
  unfold Lane.part at rest
  split at rest
  case h_10 request => exact Lane.recordWriteInFlight_of_request request
  case h_11 request => exact Lane.recordWriteInFlight_of_request request
  all_goals cases rest

/-- RUNNING is left with every lane at rest and nothing of it in flight (R171). -/
theorem State.ControlValid.disable (h : s.ControlValid) (running : s.engine = .running) (atRest : s.allAtRest = true) :
    { s with engine := .disabled }.ControlValid := by
  have atRest : ∀ n : LaneNo, s.lanes[n].state.isRest = true ∧ s.lanes[n].recordWriteInFlight = false :=
    of_decide_eq_true atRest
  obtain ⟨lanes, ⟨bound, asks, asked, apart, settled⟩, cause, -, -⟩ := h
  have notWorking {n : LaneNo} {state : LaneState} (on : state = .holding ∨ state = .active) :
      ¬ s.lanes[n].HandedOn state := fun on' => by
    have rest := (atRest n).1
    rw [on'.1] at rest
    obtain rfl | rfl := on <;> cases rest
  have idle (u : UnitNo) : s.units[u] = .idle := by
    cases unit : s.units[u].lane? with
    | none =>
      cases e : s.units[u] <;> rw [e] at unit <;> first | rfl | cases unit
    | some n => exact (notWorking (.inr rfl) (bound u n unit)).elim
  have quiet (n : LaneNo) : s.requests[n] = false :=
    Bool.eq_false_iff.2 fun request => notWorking (.inl rfl) (asks n request)
  refine ⟨lanes, ⟨bound, asks, nofun, apart, settled⟩, ⟨fun e => ?_, nofun⟩, fun _ => ⟨⟨idle, quiet⟩, fun n => ?_⟩, nofun⟩
  · cases running.symm.trans (cause.1 e)
  · obtain ⟨shape, -, -, stopped⟩ := lanes n
    have bare := shape.unburdened_of_rest (atRest n).1
    have part : s.lanes[n].part = .nothing :=
      (shape.2.2.2.2.2.1 (atRest n).1).resolve_right fun rest => by
        cases (atRest n).2.symm.trans (Lane.recordWriteInFlight_of_rest rest)
    exact ⟨(atRest n).1, Lane.part_eq_nothing_iff.1 part, bare.startDue, bare.holds, bare.storeRequest, bare.report,
      (stopped (.inl (atRest n).1)).2⟩

/-- RUNNING is entered from DISABLED, where every lane rests (R171). -/
theorem State.ControlValid.enable (h : s.ControlValid) (disabled : s.engine = .disabled) :
    { s with engine := .running }.ControlValid := by
  obtain ⟨lanes, ⟨bound, asks, -, apart, settled⟩, cause, off, -⟩ := h
  refine ⟨lanes, ⟨bound, asks, fun _ n holding => ?_, apart, settled⟩, ⟨fun e => ?_, nofun⟩, nofun, nofun⟩
  · have rest : s.lanes[n].state.isRest = true := ((off disabled).2 n).1
    have holding : s.lanes[n].state = .holding := holding
    rw [holding] at rest
    cases rest
  · cases disabled.symm.trans (cause.1 e)

/-! ### The effects on lanes and units -/

theorem State.setLane_self (s : State) (n : LaneNo) : s.setLane n s.lanes[n] = s := by
  unfold State.setLane
  rw [show s.lanes.set n s.lanes[n] = s.lanes from Vector.set_getElem_self _]

/-- A lane of a RUNNING engine changed. -/
theorem State.ControlValid.setLane (h : s.ControlValid) (running : s.engine = .running) {n : LaneNo} {l : Lane}
    (valid : l.ControlValid)
    (keeps : ∀ state, state = .holding ∨ state = .active → s.lanes[n].HandedOn state → l.HandedOn state)
    (waits : l.state = .holding → s.lanes[n].state = .holding) : (s.setLane n l).ControlValid := by
  have owned := h.owned.setLane n valid keeps waits
  exact ⟨owned.lanes, owned.ownershipValid h.2.1.2.2.2.2, h.2.2.of_running running rfl rfl⟩

theorem State.ControlValid.lane (h : s.ControlValid) {c : Instr} {n : LaneNo} {l : Lane}
    (event : s.lanes[n].Event s.area n (s.engine = .running) c l) : (s.setLane n l).ControlValid := by
  by_cases running : s.engine = .running
  · exact h.setLane running (event.controlValid (h.1 n)) (fun _ => event.handedOn) event.waits
  · have stopped := ((h.2.2.frozen running).2 n).2.2.2.2.2
    rw [event.eq_of_stopped running stopped, s.setLane_self]
    exact h

theorem State.ControlValid.requestEnd (h : s.ControlValid) {c : Instr} {n : LaneNo} {l : Lane}
    (ends : s.lanes[n].RequestEnd s.area s.epoch n c l) : (s.setLane n l).ControlValid :=
  h.setLane (h.2.2.running_of_request ends.busy) (ends.controlValid (h.1 n))
    (fun _ _ on => absurd on.2.2.1 ends.busy) ends.waits

/-- The profile store takes a lane's request, and the lane reports (R120, R129 to R133). -/
theorem State.ControlValid.store (h : s.ControlValid) {n : LaneNo} (asks : s.lanes[n].storeRequest ≠ none) (r : Report) :
    (s.setLane n (s.lanes[n].beginReport r)).ControlValid := by
  obtain ⟨⟨-, -, -, -, due, -, -, -, store, -, -, -⟩, -, timer, -⟩ := h.1 n
  obtain ⟨state, holds, part⟩ := store asks
  have startDue : s.lanes[n].startDue = false := Bool.eq_false_iff.2 fun e => by cases part.symm.trans (due e).1
  exact h.setLane (h.2.2.running_of_storeRequest asks) (Lane.beginReport_controlValid holds startDue timer r)
    (fun _ _ on => absurd on.2.2.2.1 asks) nofun

/-- The dispatcher's work from a state whose units are settled. -/
theorem State.Owned.dispatch_controlValid (h : s.Owned) (settled : ∀ u : UnitNo, s.units[u].settled = true)
    (engine : s.EngineValid) (running : s.engine = .running) : s.dispatch.ControlValid := by
  obtain ⟨ownership, owned⟩ := h.dispatch settled
  have beside := s.dispatch_beside
  exact ⟨owned.lanes, ownership, engine.of_running running beside.engine beside.haltCause⟩

/-- The lane of a claimed ITEM waits for a unit, with its request in the set (R28, R40). -/
theorem State.ControlValid.requestUnit (h : s.ControlValid) {n : LaneNo} {a : Addr} {v w : Word}
    (request : s.lanes[n].request = some (.claim a v w)) :
    (s.requestUnit n { s.lanes[n] with holds := true }).ControlValid := by
  obtain ⟨shape, -, timer, -⟩ := h.1 n
  have bare := shape.unburdened_of_claim (Lane.part_of_request request)
  have running := h.2.2.running_of_request (n := n) (by rw [request]; nofun)
  have owned := h.owned
  have free {state : LaneState} (on : s.lanes[n].HandedOn state) : False := by
    cases request.symm.trans on.2.2.1
  have on : ({ s.lanes[n] with holds := true, state := .holding, request := none } : Lane).HandedOn .holding :=
    ⟨rfl, rfl, rfl, bare.storeRequest, bare.report, bare.startDue⟩
  have lane (m : LaneNo) :
      (s.lanes.set n { s.lanes[n] with holds := true, state := .holding, request := none })[m] =
        if m = n then { s.lanes[n] with holds := true, state := .holding, request := none } else s.lanes[m] :=
    getElem_set_fin ..
  have asking (m : LaneNo) : (s.requests.set n true)[m] = if m = n then true else s.requests[m] := getElem_set_fin ..
  refine State.Owned.dispatch_controlValid ⟨fun m => ?_, fun u m hu => ?_, fun m hm => ?_, fun _ m hm => ?_, owned.apart⟩
    h.2.1.2.2.2.2 (h.2.2.of_running running rfl rfl) running
  · show Lane.ControlValid ((s.lanes.set n _)[m])
    rw [lane]
    split
    · exact Lane.HandedOn.controlValid on (.inl rfl) timer
    · exact owned.lanes m
  · show Lane.HandedOn ((s.lanes.set n _)[m]) _
    rw [lane, if_neg]
    · exact owned.bound u m hu
    · rintro rfl
      exact free (owned.bound u m hu)
  · show Lane.HandedOn ((s.lanes.set n _)[m]) _
    rw [lane]
    split
    · exact on
    · next other =>
      have hm : (s.requests.set n true)[m] = true := hm
      rw [asking, if_neg other] at hm
      exact owned.asks m hm
  · show (s.requests.set n true)[m] = true
    rw [asking]
    split
    · rfl
    · next other =>
      have hm : ((s.lanes.set n { s.lanes[n] with holds := true, state := .holding, request := none })[m]).state =
        .holding := hm
      rw [lane, if_neg other] at hm
      exact owned.asked running m hm

/-- A unit put back goes on with its item, or hands it back (R54, R58). -/
theorem State.ControlValid.putUnit (h : s.ControlValid) {u : UnitNo} {r : ReductionUnit}
    (busy : s.units[u] ≠ .idle) (lane : r.lane? = s.units[u].lane?) (placed : ∀ n copy, r ≠ .admitting n copy none) :
    (s.putUnit u r).ControlValid := by
  have running := h.2.2.running_of_unit busy
  have owned := h.owned.setUnit u lane
  have settled : ∀ v : UnitNo, s.units[v].settled = true := h.2.1.2.2.2.2
  obtain ⟨it, front, rear, rfl, e⟩ | ⟨going, e⟩ := s.putUnit_cases u r <;> rw [e]
  · have bound : (s.setUnit u (.compose it front rear)).units[u].lane? = some it.lane := by
      rw [State.setUnit_unit, if_pos rfl]
      rfl
    refine State.Owned.dispatch_controlValid (owned.release bound _) (fun v => ?_) (h.2.2.of_running running rfl rfl)
      running
    show (((s.setUnit u (.compose it front rear)).setUnit u .idle).units[v]).settled = true
    rw [State.setUnit_unit]
    split
    · rfl
    · next other =>
      rw [State.setUnit_unit, if_neg other]
      exact settled v
  · refine ⟨owned.lanes, owned.ownershipValid fun v => ?_, h.2.2.of_running running rfl rfl⟩
    rw [State.setUnit_unit]
    split
    · obtain goes | ⟨it, front, rear, e⟩ := ReductionUnit.settled_or_compose placed
      · exact goes
      · exact absurd e (going it front rear)
    · exact settled v

/-! ### Every step -/

theorem State.ControlValid.writeRun (h : s.ControlValid) (run : Bool) : (s.writeRun run).ControlValid := by
  obtain e | e | ⟨disabled, -, -, e⟩ | ⟨running, -, atRest, e⟩ := s.writeRun_cases run <;> rw [e]
  · exact h
  · exact h.congr rfl rfl rfl rfl rfl
  · exact h.enable disabled
  · exact h.disable running atRest

theorem State.Effect.controlValid {c : Instr} (e : s.Effect c t) (h : s.ControlValid) : t.ControlValid := by
  cases e with
  | kept => exact h
  | controlled =>
    refine State.ControlValid.writeRun ?_ _
    exact h.congr rfl rfl rfl rfl rfl
  | engineReset => exact State.controlValid_of_reset rfl rfl rfl rfl rfl
  | coldReset => exact State.controlValid_of_reset rfl rfl rfl rfl rfl
  | @area _ which v =>
    obtain ⟨_, _, e⟩ := s.writeArea_eq which v
    rw [e]
    exact h.congr rfl rfl rfl rfl rfl
  | lane event => exact (h.lane event).congr rfl rfl rfl rfl rfl
  | requestEnd ends => exact (h.requestEnd ends).congr rfl rfl rfl rfl rfl
  | halted => exact h.halt
  | asksUnit request => exact h.requestUnit request
  | store asks =>
    obtain ⟨asked, e⟩ := asks
    exact (h.store (by rw [e]; nofun) _).congr rfl rfl rfl rfl rfl
  | @snapshot _ u n copy p admitted =>
    have busy : s.units[u] ≠ .idle := by rw [admitted]; nofun
    exact (h.putUnit busy (r := enterFront ⟨n, copy, p, s.store.profiles[p]⟩ s.draws) (by rw [admitted]; rfl)
      nofun).congr rfl rfl rfl rfl rfl
  | @unit _ u _ ends =>
    obtain ⟨_, _, _, attempt⟩ := ends.attempt
    have drawn : s.nextDraw.ControlValid := h.congr rfl rfl rfl rfl rfl
    refine drawn.putUnit (fun idle => ?_) ends.lane ends.not_admitting
    have idle : s.units[u] = .idle := idle
    rw [idle] at attempt
    cases attempt
  | _ => exact h.congr rfl rfl rfl rfl rfl

/-- A microsecond passes for the timers alone (R151, R180). -/
theorem State.ControlValid.microsecond (h : s.ControlValid) : s.microsecond.ControlValid := by
  have lane (n : LaneNo) :
      s.microsecond.lanes[n] = { s.lanes[n] with timer := s.lanes[n].timer.microsecond } := by
    simp [State.microsecond]
  have held (n : LaneNo) : s.lanes[n].timer.microsecond.held = s.lanes[n].timer.held ∧
      s.lanes[n].timer.microsecond.running = s.lanes[n].timer.running := by
    unfold Timer.microsecond
    split <;> exact ⟨rfl, rfl⟩
  have frozen {n : LaneNo} (h : s.lanes[n].Frozen) : s.microsecond.lanes[n].Frozen := by
    rw [lane]
    obtain ⟨request, startDue, holds, storeRequest, report, stopped⟩ := h
    exact ⟨request, startDue, holds, storeRequest, report, (held n).2.trans stopped⟩
  obtain ⟨lanes, ⟨bound, asks, asked, apart, settled⟩, cause, disabled, halted⟩ := h
  refine ⟨fun n => ?_, ⟨fun u n hu => ?_, fun n hn => ?_, fun running n hn => ?_, apart, settled⟩, cause,
    fun off => ⟨(disabled off).1, fun n => ⟨?_, frozen ((disabled off).2 n).2⟩⟩,
    fun off => ⟨(halted off).1, fun n => frozen ((halted off).2 n)⟩⟩
  · rw [lane]
    refine Lane.ControlValid.timerEvent (lanes n) .microsecond fun stopped => ?_
    rw [Timer.microsecond, if_neg (Bool.eq_false_iff.1 stopped)]
  · rw [lane]
    exact bound u n hu
  · rw [lane]
    exact asks n hn
  · rw [lane] at hn
    exact asked running n hn
  · rw [lane]
    exact ((disabled off).2 n).1

/-- Settles O60: each effect keeps the lanes' shapes, flags and timers, the ownership of items, and what an engine that
is not RUNNING has in flight. -/
theorem everyStepKeepsTheControlValid : Obligations.EveryStepKeepsTheControlValid := by
  intro s t h stepped
  obtain rfl | ⟨c, rest, effect⟩ := step_cases stepped
  · exact h.microsecond
  · exact effect.controlValid (h.congr rfl rfl rfl rfl rfl)

end

end Sys2Proof.Machine
end

section
/-! Predicates on a reduction unit that the dispatcher's work and the units' own events keep, packaged once. -/

namespace Sys2Proof.Machine

/-- A predicate on a unit that holds of an IDLE one and of one that the dispatcher has bound. -/
structure ReductionUnit.KeptByDispatch (P : ReductionUnit → Prop) : Prop where
  idle : P .idle
  bound : ∀ n copy, P (.admitting n copy none)
  admitted : ∀ n copy p, admission copy = .admitted p → P (.admitting n copy (some p))

section

variable {P : ReductionUnit → Prop} {s t : State}

theorem State.setUnit_keeps (h : ∀ u : UnitNo, P s.units[u]) (u : UnitNo) {r : ReductionUnit} (hr : P r) (v : UnitNo) :
    P (s.setUnit u r).units[v] := by
  rw [State.setUnit_unit]
  split
  · exact hr
  · exact h v

theorem State.grant_keeps (kept : ReductionUnit.KeptByDispatch P) (h : ∀ u : UnitNo, P s.units[u])
    (grant : s.grant = some t) : ∀ u : UnitNo, P t.units[u] := by
  obtain ⟨-, u, n, -, -, rfl⟩ := s.grant_cases t grant
  exact State.setUnit_keeps h u (kept.bound n s.lanes[n].copyBytes)

theorem State.grantAll_keeps (kept : ReductionUnit.KeptByDispatch P) (h : ∀ u : UnitNo, P s.units[u]) (fuel : Nat) :
    ∀ u : UnitNo, P (s.grantAll fuel).units[u] := by
  induction fuel generalizing s with
  | zero => exact h
  | succ fuel ih =>
    cases grant : s.grant with
    | none => simpa only [State.grantAll, grant] using h
    | some s' => simpa only [State.grantAll, grant] using ih (State.grant_keeps kept h grant)

theorem State.admitUnit_keeps (kept : ReductionUnit.KeptByDispatch P) (h : ∀ u : UnitNo, P s.units[u]) (u : UnitNo) :
    ∀ v : UnitNo, P (s.admitUnit u).units[v] := by
  obtain e | ⟨n, copy, -, ⟨code, -, e⟩ | ⟨p, admitted, e⟩⟩ := s.admitUnit_cases u <;> rw [e]
  · exact h
  · exact State.setUnit_keeps h u kept.idle
  · exact State.setUnit_keeps h u (kept.admitted n copy p admitted)

theorem State.dispatchRounds_keeps (kept : ReductionUnit.KeptByDispatch P) (h : ∀ u : UnitNo, P s.units[u])
    (fuel : Nat) : ∀ u : UnitNo, P (s.dispatchRounds fuel).units[u] := by
  induction fuel generalizing s with
  | zero => exact h
  | succ fuel ih =>
    cases grant : s.grant with
    | none => simpa only [State.dispatchRounds, grant] using h
    | some s' =>
      have round := State.admitUnit_keeps kept (State.admitUnit_keeps kept
        (State.grantAll_keeps kept (State.grant_keeps kept h grant) 1) 0) 1
      simpa only [State.dispatchRounds, grant] using ih round

theorem State.dispatch_keeps (kept : ReductionUnit.KeptByDispatch P) (h : ∀ u : UnitNo, P s.units[u]) :
    ∀ u : UnitNo, P s.dispatch.units[u] :=
  State.dispatchRounds_keeps kept h 9

theorem State.putUnit_keeps (kept : ReductionUnit.KeptByDispatch P) (h : ∀ u : UnitNo, P s.units[u]) (u : UnitNo)
    {r : ReductionUnit} (hr : P r) : ∀ v : UnitNo, P (s.putUnit u r).units[v] := by
  have put := State.setUnit_keeps h u hr
  obtain ⟨it, front, rear, -, e⟩ | ⟨-, e⟩ := s.putUnit_cases u r <;> rw [e]
  · refine State.dispatch_keeps kept ?_
    exact State.setUnit_keeps put u kept.idle
  · exact put

/-- What every effect keeps of the units, when the snapshot and the events of an attempt keep it. -/
theorem State.Effect.keepsUnits {c : Instr} (e : s.Effect c t) (kept : ReductionUnit.KeptByDispatch P)
    (snapshot : ∀ (u : UnitNo) n copy p, s.units[u] = .admitting n copy (some p) →
      P (enterFront ⟨n, copy, p, s.store.profiles[p]⟩ s.draws))
    (ends : ∀ u r draw, P u → u.RequestEnd draw r → P r) (h : ∀ u : UnitNo, P s.units[u]) :
    ∀ u : UnitNo, P t.units[u] := by
  have reset : ∀ u : UnitNo, P ((Vector.replicate 2 ReductionUnit.idle)[u]) := fun u => by
    rw [show (Vector.replicate 2 ReductionUnit.idle)[u] = .idle by simp]
    exact kept.idle
  cases e with
  | @controlled _ w run =>
    obtain ⟨_, _, e⟩ := (s.writeModes w).writeRun_eq run
    rw [e]
    exact h
  | engineReset => exact reset
  | coldReset => exact reset
  | @area _ which v =>
    obtain ⟨_, _, e⟩ := s.writeArea_eq which v
    rw [e]
    exact h
  | halted => exact reset
  | asksUnit =>
    refine State.dispatch_keeps kept ?_
    exact h
  | @snapshot _ u n copy p admitted => exact State.setUnit_keeps h u (snapshot u n copy p admitted)
  | @unit _ u r unitEnds => exact State.putUnit_keeps kept (s := s.nextDraw) h u (ends _ r _ (h u) unitEnds)
  | _ => exact h

end

/-! ### What keeps the profile store -/

/-- A predicate on the profile store that every effect keeps, when the requests it takes and the engine reset do. -/
theorem State.Effect.keepsStore {s t : State} {c : Instr} (e : s.Effect c t) {P : ProfileStore → Prop}
    (taken : ∀ st, s.store.Taken c st → P st) (cleared : P { s.store with stageList := [] })
    (reset : P ProfileStore.reset) (h : P s.store) : P t.store := by
  cases e with
  | @controlled _ w run =>
    obtain ⟨_, _, e⟩ := (s.writeModes w).writeRun_eq run
    rw [e]
    exact h
  | engineReset => exact cleared
  | coldReset => exact reset
  | @area _ which v =>
    obtain ⟨_, _, e⟩ := s.writeArea_eq which v
    rw [e]
    exact h
  | asksUnit => rwa [(State.requestUnit_beside ..).store]
  | @store _ n st r asks request => exact taken st request
  | unit => rwa [(State.putUnit_beside ..).store]
  | _ => exact h

end Sys2Proof.Machine
end

section
/-! The pixels of a row: grey values, accumulators and averages, thresholds, trackers and ink counters, column by
column (R67 to R69, R73 to R76, R81 to R88). -/

namespace Sys2Proof.Machine

/-! ### Grey values -/

theorem sourcePixel_of_byte (row : List Byte) (x : Nat) : sourcePixel 8 row x = (row.getD x 0).toNat := rfl

theorem sourcePixel_high (row : List Byte) (x : Nat) :
    sourcePixel 4 row (2 * x) = (row.getD x 0).toNat / 16 * 17 := by
  simp [sourcePixel]

theorem sourcePixel_low (row : List Byte) (x : Nat) :
    sourcePixel 4 row (2 * x + 1) = (row.getD x 0).toNat % 16 * 17 := by
  have half : (2 * x + 1) / 2 = x := by omega
  simp [sourcePixel, half]

theorem sourcePixel_le (depth : Nat) (row : List Byte) (x : Nat) : sourcePixel depth row x ≤ 255 := by
  have byte (i : Nat) : (row.getD i 0).toNat < 256 := (row.getD i 0).isLt
  unfold sourcePixel
  split
  · have nibbles := byte (x / 2)
    dsimp only
    split <;> omega
  · exact Nat.le_of_lt_succ (byte x)

theorem greyValue_le {inverted : Bool} {v : Nat} (h : v ≤ 255) : greyValue inverted v ≤ 255 := by
  unfold greyValue
  split <;> omega

theorem SideDescriptor.length_greyRow (d : SideDescriptor) (row : List Byte) : (d.greyRow row).length = d.ws := by
  simp [SideDescriptor.greyRow]

theorem SideDescriptor.getElem?_greyRow (d : SideDescriptor) (row : List Byte) {x : Nat} (h : x < d.ws) :
    (d.greyRow row)[x]? = some (greyValue d.inverted (sourcePixel d.depth row x)) := by
  simp [SideDescriptor.greyRow, h]

theorem SideDescriptor.greyRow_le (d : SideDescriptor) (row : List Byte) : ∀ g ∈ d.greyRow row, g ≤ 255 := by
  intro g hg
  obtain ⟨x, -, rfl⟩ := List.mem_map.1 hg
  exact greyValue_le (sourcePixel_le ..)

/-! ### Accumulators -/

theorem length_accumulateFrom (ws wo x : Nat) (greys : List Nat) (sums : List Accumulator) :
    (accumulateFrom ws wo x greys sums).length = sums.length := by
  induction greys generalizing x sums with
  | nil => rfl
  | cons g gs ih => rw [accumulateFrom, ih, List.length_modify]

/-- The columns from `x` on, `n` of them, that belong to output column `j`. -/
def columnsOf (ws wo x n j : Nat) : List Nat :=
  (List.range' x n).filter fun y => groupOf ws wo y = j

/-- Each accumulator takes the sum and the number of the grey values of its own columns (R73, R75). -/
theorem getElem?_accumulateFrom (ws wo x j : Nat) (greys : List Nat) (sums : List Accumulator) :
    (accumulateFrom ws wo x greys sums)[j]? = sums[j]?.map fun a =>
      { sum := a.sum + ((columnsOf ws wo x greys.length j).map fun y => greys.getD (y - x) 0).sum
        count := a.count + (columnsOf ws wo x greys.length j).length } := by
  induction greys generalizing x sums with
  | nil =>
    rw [accumulateFrom]
    cases sums[j]? <;> simp [columnsOf]
  | cons g gs ih =>
    have later (js : List Nat) (h : ∀ y ∈ js, x + 1 ≤ y) :
        (js.map fun y => (g :: gs).getD (y - x) 0) = js.map fun y => gs.getD (y - (x + 1)) 0 := by
      refine List.map_congr_left fun y hy => ?_
      have after := h y hy
      rw [show y - x = y - (x + 1) + 1 by omega, List.getD_cons_succ]
    have rest := later (columnsOf ws wo (x + 1) gs.length j) fun y hy =>
      (List.mem_range'_1.1 (List.mem_of_mem_filter hy)).1
    rw [accumulateFrom, ih, List.getElem?_modify]
    by_cases own : groupOf ws wo x = j
    · have cons : columnsOf ws wo x (gs.length + 1) j = x :: columnsOf ws wo (x + 1) gs.length j := by
        simp [columnsOf, List.range'_succ, own]
      simp only [List.length_cons, cons, List.map_cons, rest, own]
      cases sums[j]? with
      | none => rfl
      | some a =>
        simp [Accumulator.add]
        omega
    · have cons : columnsOf ws wo x (gs.length + 1) j = columnsOf ws wo (x + 1) gs.length j := by
        simp [columnsOf, List.range'_succ, own]
      simp only [List.length_cons, cons, rest, own]
      cases sums[j]? <;> simp

/-- The sums stay within 255 times their counts (R79). -/
theorem accumulateFrom_le (ws wo x : Nat) {greys : List Nat} {sums : List Accumulator} (grey : ∀ g ∈ greys, g ≤ 255)
    (h : ∀ a ∈ sums, a.sum ≤ 255 * a.count) : ∀ a ∈ accumulateFrom ws wo x greys sums, a.sum ≤ 255 * a.count := by
  induction greys generalizing x sums with
  | nil => exact h
  | cons g gs ih =>
    obtain ⟨low, greys⟩ := List.forall_mem_cons.1 grey
    refine ih (x + 1) greys fun a ha => ?_
    obtain ⟨i, inside, rfl⟩ := List.getElem_of_mem ha
    rw [List.length_modify] at inside
    rw [List.getElem_modify]
    have bound := h sums[i] (List.getElem_mem inside)
    split
    · simp only [Accumulator.add]
      omega
    · exact bound

theorem Accumulator.average_bounds {a : Accumulator} (h : 0 < a.count) :
    a.average * a.count ≤ a.sum + a.count / 2 ∧ a.sum + a.count / 2 < (a.average + 1) * a.count :=
  ⟨Nat.div_mul_le_self .., (Nat.div_lt_iff_lt_mul h).1 (Nat.lt_succ_self _)⟩

theorem Accumulator.average_le {a : Accumulator} (h : a.sum ≤ 255 * a.count) : a.average ≤ 255 := by
  unfold Accumulator.average
  obtain empty | full := Nat.eq_zero_or_pos a.count
  · simp [empty]
  · refine Nat.le_of_lt_succ ((Nat.div_lt_iff_lt_mul full).2 ?_)
    omega

/-! ### Thresholds and trackers -/

section

variable {p : Profile} {b c a : Nat}

theorem backgroundLike_iff : backgroundLike p b a = true ↔ b ≤ a + p.inkGap := by
  rw [backgroundLike, decide_eq_true_eq]
  omega

/-- A tracker moves toward a pixel and does not pass it (R85). -/
theorem moveTracker_eq : moveTracker p b a =
    if b ≤ a then b + (b - a + (a - b)) / 2 ^ p.kTrack else b - (b - a + (a - b)) / 2 ^ p.kTrack := by
  unfold moveTracker
  split
  · next up => rw [Nat.sub_eq_zero_of_le up, Nat.zero_add]
  · next down => rw [Nat.sub_eq_zero_of_le (Nat.le_of_not_le down), Nat.add_zero]

theorem nextTracker_bounds : min a b ≤ nextTracker p b a ∧ nextTracker p b a ≤ max a b := by
  have step (d : Nat) : d / 2 ^ p.kTrack ≤ d := Nat.div_le_self ..
  have up := step (a - b)
  have down := step (b - a)
  unfold nextTracker moveTracker
  generalize (a - b) / 2 ^ p.kTrack = u at *
  generalize (b - a) / 2 ^ p.kTrack = d at *
  split
  · split <;> omega
  · omega

/-- The raw threshold lies between half the tracker and the tracker (R82). -/
theorem rawThreshold_bounds (h : p.Valid) (hb : b ≤ 255) :
    b / 2 ≤ rawThreshold p b ∧ rawThreshold p b ≤ b ∧ rawThreshold p b ≤ 251 := by
  obtain ⟨-, ⟨low, high⟩, -⟩ := h
  have least : b * 32 ≤ b * p.contrast := Nat.mul_le_mul_left b low
  have most : b * p.contrast ≤ b * 63 := Nat.mul_le_mul_left b high
  unfold rawThreshold
  omega

end

/-! ### A row binarised -/

theorem binariseRow_trackers_length (p : Profile) (bs cs as : List Nat) :
    (binariseRow p bs cs as).trackers.length = bs.length := by
  fun_induction binariseRow p bs cs as with
  | case1 b bs c cs a as rest ih => exact congrArg (· + 1) ih
  | case2 => rfl

theorem binariseRow_inkCounters_length (p : Profile) (bs cs as : List Nat) :
    (binariseRow p bs cs as).inkCounters.length = cs.length := by
  fun_induction binariseRow p bs cs as with
  | case1 b bs c cs a as rest ih => exact congrArg (· + 1) ih
  | case2 => rfl

/-- One tracker and one ink counter for each column, and so one colour. -/
theorem binariseRow_colours_length (p : Profile) {bs cs as : List Nat} (hb : bs.length = as.length)
    (hc : cs.length = as.length) : (binariseRow p bs cs as).colours.length = as.length := by
  induction as generalizing bs cs with
  | nil =>
    unfold binariseRow
    split <;> simp_all
  | cons a as ih =>
    obtain ⟨b, bs, rfl⟩ := List.exists_cons_of_length_eq_add_one hb
    obtain ⟨c, cs, rfl⟩ := List.exists_cons_of_length_eq_add_one hc
    simp only [List.length_cons, Nat.add_right_cancel_iff] at hb hc
    simp [binariseRow, ih hb hc]

/-- The columns are independent (R81). -/
theorem getElem?_binariseRow (p : Profile) {bs cs as : List Nat} {x b c a : Nat} (hb : bs[x]? = some b)
    (hc : cs[x]? = some c) (ha : as[x]? = some a) :
    (binariseRow p bs cs as).colours[x]? = some (isBlack p b a) ∧
      (binariseRow p bs cs as).trackers[x]? = some (nextTracker p b a) ∧
      (binariseRow p bs cs as).inkCounters[x]? = some (nextInkCounter p b c a) := by
  induction x generalizing bs cs as with
  | zero =>
    obtain ⟨bs, rfl⟩ : ∃ t, bs = b :: t := by cases bs <;> simp_all
    obtain ⟨cs, rfl⟩ : ∃ t, cs = c :: t := by cases cs <;> simp_all
    obtain ⟨as, rfl⟩ : ∃ t, as = a :: t := by cases as <;> simp_all
    exact ⟨rfl, rfl, rfl⟩
  | succ x ih =>
    obtain ⟨b', bs, rfl⟩ : ∃ h t, bs = h :: t := by cases bs <;> simp_all
    obtain ⟨c', cs, rfl⟩ : ∃ h t, cs = h :: t := by cases cs <;> simp_all
    obtain ⟨a', as, rfl⟩ : ∃ h t, as = h :: t := by cases as <;> simp_all
    exact ih hb hc ha

/-- The trackers stay in 0-255 (R88). -/
theorem binariseRow_trackers_le (p : Profile) {bs cs as : List Nat} (hb : ∀ b ∈ bs, b ≤ 255) (ha : ∀ a ∈ as, a ≤ 255) :
    ∀ b ∈ (binariseRow p bs cs as).trackers, b ≤ 255 := by
  fun_induction binariseRow p bs cs as with
  | case1 b bs c cs a as rest ih =>
    obtain ⟨tracker, trackers⟩ := List.forall_mem_cons.1 hb
    obtain ⟨grey, greys⟩ := List.forall_mem_cons.1 ha
    refine List.forall_mem_cons.2 ⟨?_, ih trackers greys⟩
    exact (nextTracker_bounds (p := p)).2.trans (max_le grey tracker)
  | case2 => exact hb

/-! ### The obligation -/

/-- Settles O50, from the laws of the pixels, the averages, the trackers, the rows and the accumulators. -/
theorem greyPixelsToColours : Obligations.GreyPixelsToColours := by
  refine ⟨fun row x => ⟨sourcePixel_of_byte row x, sourcePixel_high row x, sourcePixel_low row x,
      fun depth inverted => ⟨sourcePixel_le depth row x, rfl⟩⟩,
    fun a full within => ⟨(a.average_bounds full).1, (a.average_bounds full).2, a.average_le within⟩,
    fun p b c a valid hb ha => ?pixel, fun p bs cs as hb hc => ?row,
    fun d row => ⟨d.length_greyRow row, fun x => d.getElem?_greyRow row⟩, fun ws wo greys sums width => ?sums⟩
  case pixel =>
    intro t step raw
    obtain ⟨low, high, top⟩ := rawThreshold_bounds valid hb
    have ordered : p.tFloor ≤ p.tCeil := valid.2.2.1.1
    refine ⟨low, high, top, fun h => if_pos h, fun h => ?_, fun h h' => ?_, decide_eq_true_iff, fun h => ?_, fun h => ?_,
      nextTracker_bounds.1, nextTracker_bounds.2, ?_⟩
    · exact (if_neg (Nat.not_lt.2 (ordered.trans h.le))).trans (if_pos h)
    · exact (if_neg (Nat.not_lt.2 h)).trans (if_neg (Nat.not_lt.2 h'))
    · rw [nextTracker, if_pos (backgroundLike_iff.2 h), moveTracker_eq]
    · exact if_neg fun like => by
        have := backgroundLike_iff.1 like
        omega
    · simp only [nextInkCounter, isBlack, decide_eq_true_eq]
      rfl
  case row =>
    exact ⟨binariseRow_colours_length p hb hc, (binariseRow_trackers_length ..).trans hb,
      (binariseRow_inkCounters_length ..).trans hc, fun x b c a => getElem?_binariseRow p⟩
  case sums =>
    refine ⟨length_accumulateFrom .., fun j a ha => ?_⟩
    intro columns
    have own : columnsOf ws wo 0 greys.length j = columns := by
      rw [width, columnsOf, ← List.range_eq_range']
      rfl
    rw [getElem?_accumulateFrom, ha, own]
    rfl

end Sys2Proof.Machine
end

section
/-! The attempt in progress stays valid through every event of it (R53, R55, R75, R79, R88, R100 to R104). -/

namespace Sys2Proof.Machine

/-! ### The packer -/

/-- A packer within its budget: counted bytes, at most 7 bits of the next, waiting bytes that are counted, and oversize
reported at the budget alone (R100 to R102). -/
structure Packer.Within (budget : Nat) (k : Packer) : Prop where
  byteCount : k.byteCount ≤ budget
  partialBits : k.partialBits.length ≤ 7
  waiting : k.waiting.length ≤ k.byteCount
  overBudget : k.overBudget = true → k.byteCount = budget

section

variable {budget : Nat} {k : Packer}

theorem Packer.fresh_within (budget : Nat) : Packer.fresh.Within budget :=
  ⟨Nat.zero_le _, Nat.zero_le _, le_rfl, nofun⟩

theorem Packer.Within.completeByte (h : k.Within budget) (bits : List Bool) :
    (k.completeByte budget bits).Within budget := by
  unfold Packer.completeByte
  split
  · next fits =>
    refine ⟨fits, Nat.zero_le _, ?_, fun exceeds => ?_⟩
    · simpa using h.waiting
    · have full := h.overBudget exceeds
      omega
  · next exceeds => exact ⟨h.byteCount, Nat.zero_le _, h.waiting, fun _ => h.byteCount.antisymm (by omega)⟩

theorem Packer.Within.appendBit (h : k.Within budget) (bit : Bool) : (k.appendBit budget bit).Within budget := by
  unfold Packer.appendBit
  split_ifs with exceeds full
  · exact h
  · exact h.completeByte _
  · refine ⟨h.byteCount, ?_, h.waiting, h.overBudget⟩
    have few := h.partialBits
    simp only [List.length_append, List.length_singleton]
    omega

theorem Packer.Within.append (h : k.Within budget) (bits : List Bool) : (k.append budget bits).Within budget := by
  induction bits generalizing k with
  | nil => exact h
  | cons bit bits ih => exact ih (h.appendBit bit)

theorem Packer.Within.finish (h : k.Within budget) : (k.finish budget).Within budget := by
  unfold Packer.finish
  split
  · exact h
  · exact h.completeByte _

end

/-! ### The side context -/

theorem SideContext.valid_iff (p : Profile) (sd : SideContext) : sd.Valid p ↔
    (sd.trackers.length = sd.wo ∧ ∀ b ∈ sd.trackers, b ≤ 255) ∧ sd.inkCounters.length = sd.wo ∧
      (sd.accumulators.length = sd.wo ∧ ∀ a ∈ sd.accumulators, a.sum ≤ 255 * a.count) ∧
      sd.packer.Within sd.budget ∧ sd.step ≤ p.fallbackLimit ∧
      (sd.phase = .oversize → sd.packer.overBudget = true) ∧ sd.phase.sound = true := by
  constructor
  · rintro ⟨trackers, ink, sums, count, bits, waiting, step, exceeds, oversize, sound⟩
    exact ⟨trackers, ink, sums, ⟨count, bits, waiting, exceeds⟩, step, oversize, sound⟩
  · rintro ⟨trackers, ink, sums, ⟨count, bits, waiting, exceeds⟩, step, oversize, sound⟩
    exact ⟨trackers, ink, sums, count, bits, waiting, step, exceeds, oversize, sound⟩

section

variable {p : Profile} {sd : SideContext}

theorem freshAccumulators_within (wo : Nat) :
    (freshAccumulators wo).length = wo ∧ ∀ a ∈ freshAccumulators wo, a.sum ≤ 255 * a.count := by
  refine ⟨List.length_replicate, fun a ha => ?_⟩
  rw [List.eq_of_mem_replicate ha]
  exact Nat.zero_le _

theorem freshAttempt_valid (d : SideDescriptor) (hp : p.Valid) (offset budget : Nat) {step : Nat}
    (hs : step ≤ p.fallbackLimit) : (freshAttempt d p offset budget step).Valid p := by
  rw [SideContext.valid_iff]
  refine ⟨⟨List.length_replicate, fun b hb => ?_⟩, List.length_replicate, freshAccumulators_within _,
    Packer.fresh_within budget, hs, nofun, rfl⟩
  rw [List.eq_of_mem_replicate hb]
  exact hp.2.2.2.1

/-- The reads and the writes have no part in it. -/
theorem SideContext.Valid.requests (h : sd.Valid p) (reads : List SourceRead) (writes : List OutputWrite)
    (readRow readOff : Nat) :
    { sd with reads := reads, writes := writes, readRow := readRow, readOff := readOff }.Valid p := h

theorem SideContext.Valid.pumpReads (h : sd.Valid p) (d : SideDescriptor) (draw : Nat) :
    (sd.pumpReads d draw).Valid p := by
  obtain ⟨-, new, readRow, readOff, -, e⟩ | ⟨-, e⟩ := sd.pumpReads_cases d draw <;> rw [e]
  · exact h.requests ..
  · exact h

/-- Waiting bytes may be sent, and the ending of an attempt may drop the partial byte with them. -/
theorem SideContext.Valid.repack (h : sd.Valid p) {waiting : List Byte} (fewer : waiting.length ≤ sd.packer.waiting.length)
    (writes : List OutputWrite) : { sd with writes := writes, packer := { sd.packer with waiting := waiting } }.Valid p := by
  rw [SideContext.valid_iff] at *
  obtain ⟨trackers, ink, sums, within, step, oversize, sound⟩ := h
  exact ⟨trackers, ink, sums, ⟨within.byteCount, within.partialBits, fewer.trans within.waiting, within.overBudget⟩, step,
    oversize, sound⟩

theorem SideContext.Valid.issueWrites (h : sd.Valid p) (out : Addr) (draw n i : Nat) :
    (sd.issueWrites out draw n i).Valid p := by
  obtain ⟨sent, waiting, carried, -, e⟩ := sd.issueWrites_cases out draw n i
  rw [e]
  refine h.repack ?_ _
  rw [← carried, List.length_append]
  exact Nat.le_add_left ..

theorem SideContext.Valid.pump (h : sd.Valid p) (d : SideDescriptor) (out : Addr) (draw : Nat) :
    (sd.pump d out draw).Valid p := by
  refine SideContext.Valid.pumpReads ?_ d draw
  unfold SideContext.pumpWrites
  split
  · exact h.issueWrites ..
  · exact h.issueWrites ..
  · exact h.issueWrites ..
  · exact h

theorem SideContext.Valid.fail (h : sd.Valid p) {status : SideStatus} (error : status.isError = true) :
    (sd.fail status).Valid p := by
  rw [SideContext.valid_iff] at *
  obtain ⟨trackers, ink, sums, within, step, -, -⟩ := h
  exact ⟨trackers, ink, sums, ⟨within.byteCount, Nat.zero_le _, Nat.zero_le _, within.overBudget⟩, step, nofun, error⟩

theorem SideContext.Valid.goOversize (h : sd.Valid p) (exceeds : sd.packer.overBudget = true) : sd.goOversize.Valid p := by
  rw [SideContext.valid_iff] at *
  obtain ⟨trackers, ink, sums, within, step, -, -⟩ := h
  exact ⟨trackers, ink, sums, within, step, fun _ => exceeds, rfl⟩

/-- Bits packed, a row moved to, or the attempt completed, while it fetches. -/
theorem SideContext.Valid.packed (h : sd.Valid p) {packer : Packer} (within : packer.Within sd.budget)
    (previous : Option (List Bool)) (outRow : Nat) {phase : AttemptPhase}
    (oversize : phase = .oversize → packer.overBudget = true) (sound : phase.sound = true) :
    { sd with packer := packer, previous := previous, outRow := outRow, phase := phase }.Valid p := by
  rw [SideContext.valid_iff] at *
  obtain ⟨trackers, ink, sums, -, step, -, -⟩ := h
  exact ⟨trackers, ink, sums, within, step, oversize, sound⟩

theorem SideContext.Valid.codeRow (h : sd.Valid p) (fetching : sd.phase = .fetching) (row : List Bool) :
    (sd.codeRow p row).Valid p := by
  have within := (sd.valid_iff p).1 h |>.2.2.2.1
  have appended := within.append (rowCode p.runOrder sd.previous row)
  have noOversize {k : Packer} : sd.phase = .oversize → k.overBudget = true := fun e => nomatch fetching.symm.trans e
  have sound : sd.phase.sound = true := by rw [fetching]; rfl
  unfold SideContext.codeRow
  dsimp only
  split_ifs with exceeds more overEnd
  · exact (h.packed appended sd.previous sd.outRow noOversize sound).goOversize exceeds
  · exact h.packed appended _ _ noOversize sound
  · exact (h.packed appended.finish _ _ noOversize sound).goOversize overEnd
  · exact h.packed appended.finish _ _ nofun rfl

theorem SideContext.Valid.finishRow (h : sd.Valid p) (fetching : sd.phase = .fetching) : (sd.finishRow p).Valid p := by
  have averaged : { sd with
      accumulators := freshAccumulators sd.wo
      trackers := (binariseRow p sd.trackers sd.inkCounters (sd.accumulators.map Accumulator.average)).trackers
      inkCounters := (binariseRow p sd.trackers sd.inkCounters (sd.accumulators.map Accumulator.average)).inkCounters }.Valid
        p := by
    rw [SideContext.valid_iff] at *
    obtain ⟨⟨columns, grey⟩, ink, ⟨-, sums⟩, within, step, oversize, sound⟩ := h
    refine ⟨⟨(binariseRow_trackers_length ..).trans columns, binariseRow_trackers_le p grey fun a ha => ?_⟩,
      (binariseRow_inkCounters_length ..).trans ink, freshAccumulators_within _, within, step, oversize, sound⟩
    obtain ⟨acc, hacc, rfl⟩ := List.mem_map.1 ha
    exact Accumulator.average_le (sums acc hacc)
  exact averaged.codeRow fetching _

theorem SideContext.Valid.takeRow (h : sd.Valid p) (fetching : sd.phase = .fetching) (d : SideDescriptor)
    (bytes : List Byte) : (sd.takeRow d p bytes).Valid p := by
  have taken : { sd with
      nextRow := sd.nextRow + 1
      accumulators := accumulateFrom d.ws sd.wo 0 (d.greyRow bytes) sd.accumulators }.Valid p := by
    rw [SideContext.valid_iff] at *
    obtain ⟨trackers, ink, ⟨columns, sums⟩, rest⟩ := h
    exact ⟨trackers, ink, ⟨(length_accumulateFrom ..).trans columns,
      accumulateFrom_le _ _ _ (d.greyRow_le bytes) sums⟩, rest⟩
  unfold SideContext.takeRow
  dsimp only
  split
  · exact taken.finishRow fetching
  · exact taken

theorem SideContext.Valid.takeRows (h : sd.Valid p) (d : SideDescriptor) (fuel : Nat) :
    (sd.takeRows d p fuel).Valid p := by
  induction fuel generalizing sd with
  | zero => exact h
  | succ fuel ih =>
    unfold SideContext.takeRows
    split
    · next fetching =>
      split
      · next later _ =>
        have waiting := h.requests later sd.writes sd.readRow sd.readOff
        exact ih (waiting.takeRow fetching d _)
      · exact h
    · exact h

theorem SideContext.Valid.readEnded (h : sd.Valid p) (d : SideDescriptor) (row off : Nat)
    (result : ReadEnd (List Byte)) : (sd.readEnded d p row off result).Valid p := by
  unfold SideContext.readEnded
  split
  · exact SideContext.Valid.takeRows (h.requests _ sd.writes sd.readRow sd.readOff) d _
  · exact SideContext.Valid.fail (h.requests _ sd.writes sd.readRow sd.readOff) rfl
  · exact h.requests _ sd.writes sd.readRow sd.readOff

theorem SideContext.Valid.writeEnded (h : sd.Valid p) (index : Nat) (result : WriteEnd) :
    (sd.writeEnded index result).Valid p := by
  have dropped : (sd.dropWrite index).Valid p := h.requests sd.reads _ sd.readRow sd.readOff
  unfold SideContext.writeEnded
  split
  · exact dropped
  · exact dropped
  · exact dropped.fail rfl

theorem beginAttempt_valid (d : SideDescriptor) (hp : p.Valid) (offset budget : Nat) {step : Nat}
    (hs : step ≤ p.fallbackLimit) (draw : Nat) : (beginAttempt d p offset budget step draw).Valid p :=
  (freshAttempt_valid d hp offset budget hs).pumpReads d draw

end

/-! ### The unit -/

theorem frontEnds_valid {it : ItemContext} (h : it.fields.Valid) (r : SideResult) (draw : Nat) :
    (frontEnds it r draw).Valid := by
  unfold frontEnds
  dsimp only
  split_ifs
  · exact h
  · exact h
  · exact ⟨h, beginAttempt_valid _ h _ _ (Nat.zero_le _) draw⟩
  · exact h

/-- The ladder goes one step lower only below fallback_limit (R53). -/
theorem SideContext.step_lt_of_restart {p : Profile} {sd : SideContext} (h : sd.ending p = .restart) :
    sd.step < p.fallbackLimit := by
  obtain ⟨-, e⟩ | ⟨-, -, e⟩ | ⟨-, -, below, -⟩ | ⟨-, -, -, e⟩ | ⟨-, st, -, e⟩ := sd.ending_cases p
  · cases e.symm.trans h
  · cases e.symm.trans h
  · exact below
  · cases e.symm.trans h
  · cases e.symm.trans h

theorem ReductionUnit.Valid.settle {u : ReductionUnit} (h : u.Valid) (draw : Nat) : (u.settle draw).Valid := by
  cases u with
  | front it sd =>
    unfold ReductionUnit.settle
    dsimp only
    split
    · exact h
    · next restarts => exact ⟨h.1, beginAttempt_valid _ h.1 _ _ (SideContext.step_lt_of_restart restarts) draw⟩
    · exact frontEnds_valid h.1 _ draw
  | rear it f sd =>
    unfold ReductionUnit.settle
    dsimp only
    split
    · exact h
    · next restarts => exact ⟨h.1, beginAttempt_valid _ h.1 _ _ (SideContext.step_lt_of_restart restarts) draw⟩
    · exact h.1
  | _ => exact h

theorem ReductionUnit.Valid.attempt {u : ReductionUnit} (h : u.Valid) {it : ItemContext} {d : SideDescriptor}
    {sd : SideContext} (attempt : u.attempt = some (it, d, sd)) :
    sd.Valid it.fields ∧ ∀ sd' : SideContext, sd'.Valid it.fields → (u.withSide sd').Valid := by
  obtain ⟨rfl, -⟩ | ⟨f, rfl, -⟩ := u.attempt_cases it d sd attempt
  · exact ⟨h.2, fun _ valid => ⟨h.1, valid⟩⟩
  · exact ⟨h.2, fun _ valid => ⟨h.1, valid⟩⟩

theorem ReductionUnit.RequestEnd.valid {u r : ReductionUnit} {draw : Nat} (e : u.RequestEnd draw r) (h : u.Valid) :
    r.Valid := by
  cases e with
  | read attempt =>
    obtain ⟨valid, withSide⟩ := h.attempt attempt
    exact (withSide _ ((valid.readEnded ..).pump ..)).settle draw
  | write attempt =>
    obtain ⟨valid, withSide⟩ := h.attempt attempt
    exact (withSide _ ((valid.writeEnded ..).pump ..)).settle draw

/-! ### The profile store -/

theorem ProfileStore.Valid.applyUpdate {st : ProfileStore} (h : st.Valid) (p : Fin 16) (u : Update) :
    (st.applyUpdate p u).Valid := by
  refine ⟨fun i => ?_, h.2⟩
  rw [st.applyUpdate_profiles]
  split
  · exact st.profiles[p].applyUpdate_valid u (h.1 p)
  · exact h.1 i

theorem ProfileStore.Valid.filter {st : ProfileStore} (h : st.Valid) (keep : StageEntry → Bool) :
    { st with stageList := st.stageList.filter keep }.Valid :=
  ⟨h.1, (List.length_filter_le ..).trans h.2⟩

theorem ProfileStore.Valid.openLane {st : ProfileStore} (h : st.Valid) (n : LaneNo) : (st.openLane n).Valid := by
  have folds (es : List StageEntry) {st : ProfileStore} (h : st.Valid) :
      (es.foldl (fun acc e => acc.applyUpdate e.profile e.update) st).Valid := by
    induction es generalizing st with
    | nil => exact h
    | cons e es ih => exact ih (h.applyUpdate e.profile e.update)
  exact folds _ (h.filter _)

theorem ProfileStore.Taken.valid {st st' : ProfileStore} {c : Instr} (e : st.Taken c st') (h : st.Valid) : st'.Valid := by
  cases e with
  | applied => exact h.applyUpdate ..
  | appended room => exact ⟨h.1, by simpa using room⟩
  | full => exact h
  | cancelled => exact h.filter _
  | opened => exact h.openLane _

theorem ProfileStore.reset_valid : ProfileStore.reset.Valid := by
  refine ⟨fun i => ?_, Nat.zero_le _⟩
  rw [show ProfileStore.reset.profiles[i] = { fields := Profile.reset, generation := 0 } by simp [ProfileStore.reset]]
  decide

/-! ### The obligation -/

theorem ReductionUnit.valid_kept : ReductionUnit.KeptByDispatch ReductionUnit.Valid :=
  ⟨trivial, fun _ _ => trivial, fun _ _ _ _ => trivial⟩

/-- Settles O58: an application keeps a profile valid, a snapshot is a copy of a valid profile, and every event of an
attempt keeps it valid under its snapshot. -/
theorem everyStepKeepsStoreAndUnitsValid : Obligations.EveryStepKeepsStoreAndUnitsValid := by
  intro s t store units stepped
  obtain rfl | ⟨c, rest, effect⟩ := step_cases stepped
  · exact ⟨store, units⟩
  · refine ⟨effect.keepsStore (fun st taken => taken.valid store) ⟨store.1, Nat.zero_le _⟩ ProfileStore.reset_valid store,
      effect.keepsUnits ReductionUnit.valid_kept (fun u n copy p _ => ?_) (fun _ _ _ h ends => ends.valid h) units⟩
    exact ⟨store.1 p, beginAttempt_valid _ (store.1 p) _ _ (Nat.zero_le _) _⟩

end Sys2Proof.Machine
end

section
/-! A unit's requests to host memory: the reads in increasing order of row and byte at their addresses, the writes in
increasing byte order at theirs, and no byte past the budget or the capacity (R49 to R51, R62 to R64, R104). -/

namespace Sys2Proof.Machine

/-! ### The bytes counted and sent -/

/-- The number of the attempt's bytes that no longer wait (R104). -/
def Packer.sent (k : Packer) : Nat := k.byteCount - k.waiting.length

/-- The waiting bytes are counted, and the counted ones lie within the budget (R100, R102). -/
def Packer.Counted (budget : Nat) (k : Packer) : Prop :=
  k.waiting.length ≤ k.byteCount ∧ k.byteCount ≤ budget

/-- Bits packed: what is counted waits, so that nothing is sent. -/
structure Packer.Packs (budget : Nat) (k k' : Packer) : Prop where
  sent : k'.sent = k.sent
  counted : k.Counted budget → k'.Counted budget

section

variable {budget : Nat} {k k' k'' : Packer}

theorem Packer.Packs.refl : k.Packs budget k := ⟨rfl, id⟩

theorem Packer.Packs.trans (h : k.Packs budget k') (h' : k'.Packs budget k'') : k.Packs budget k'' :=
  ⟨h'.sent.trans h.sent, fun counted => h'.counted (h.counted counted)⟩

theorem Packer.completeByte_packs (k : Packer) (bits : List Bool) : k.Packs budget (k.completeByte budget bits) := by
  unfold Packer.completeByte
  split
  · next fits =>
    refine ⟨?_, fun counted => ⟨?_, fits⟩⟩
    · simp [Packer.sent]
    · simpa using counted.1
  · exact ⟨rfl, id⟩

theorem Packer.appendBit_packs (k : Packer) (bit : Bool) : k.Packs budget (k.appendBit budget bit) := by
  unfold Packer.appendBit
  split_ifs
  · exact .refl
  · exact k.completeByte_packs _
  · exact ⟨rfl, id⟩

theorem Packer.append_packs (k : Packer) (bits : List Bool) : k.Packs budget (k.append budget bits) := by
  induction bits generalizing k with
  | nil => exact .refl
  | cons bit bits ih => exact (k.appendBit_packs bit).trans (ih _)

theorem Packer.finish_packs (k : Packer) : k.Packs budget (k.finish budget) := by
  unfold Packer.finish
  split
  · exact .refl
  · exact k.completeByte_packs _

end

/-! ### What goes on of an attempt -/

/-- The attempt goes on with no new request: the side's place and the next byte to be asked for stay, requests may have
ended, and bytes may have been made. -/
structure SideContext.GoesOn (sd sd' : SideContext) : Prop where
  offset : sd'.offset = sd.offset
  budget : sd'.budget = sd.budget
  readRow : sd'.readRow = sd.readRow
  readOff : sd'.readOff = sd.readOff
  reads : sd'.reads.Sublist sd.reads
  writes : sd'.writes.Sublist sd.writes
  sent : sd.packer.sent ≤ sd'.packer.sent
  counted : sd.packer.Counted sd.budget → sd'.packer.Counted sd'.budget

section

variable {sd sd' sd'' : SideContext} {d : SideDescriptor} {out : Addr} {p : Profile}

theorem SideContext.GoesOn.refl : sd.GoesOn sd := ⟨rfl, rfl, rfl, rfl, .refl _, .refl _, le_rfl, id⟩

theorem SideContext.GoesOn.trans (h : sd.GoesOn sd') (h' : sd'.GoesOn sd'') : sd.GoesOn sd'' :=
  ⟨h'.offset.trans h.offset, h'.budget.trans h.budget, h'.readRow.trans h.readRow, h'.readOff.trans h.readOff,
    h'.reads.trans h.reads, h'.writes.trans h.writes, h.sent.trans h'.sent, fun c => h'.counted (h.counted c)⟩

theorem SideContext.goOversize_goesOn : sd.GoesOn sd.goOversize :=
  ⟨rfl, rfl, rfl, rfl, List.filter_sublist, .refl _, le_rfl, id⟩

/-- The bytes that wait are discarded: they count as sent. -/
theorem SideContext.fail_goesOn (status : SideStatus) : sd.GoesOn (sd.fail status) :=
  ⟨rfl, rfl, rfl, rfl, List.filter_sublist, .refl _, Nat.sub_le _ _, fun counted => ⟨Nat.zero_le _, counted.2⟩⟩

theorem SideContext.dropRead_goesOn (row off : Nat) : sd.GoesOn (sd.dropRead row off) :=
  ⟨rfl, rfl, rfl, rfl, List.filter_sublist, .refl _, le_rfl, id⟩

theorem SideContext.dropWrite_goesOn (index : Nat) : sd.GoesOn (sd.dropWrite index) :=
  ⟨rfl, rfl, rfl, rfl, .refl _, List.filter_sublist, le_rfl, id⟩

theorem SideContext.packed_goesOn {packer : Packer} (packs : sd.packer.Packs sd.budget packer)
    (previous : Option (List Bool)) (outRow : Nat) (phase : AttemptPhase) :
    sd.GoesOn { sd with packer := packer, previous := previous, outRow := outRow, phase := phase } :=
  ⟨rfl, rfl, rfl, rfl, .refl _, .refl _, packs.sent.ge, packs.counted⟩

theorem SideContext.codeRow_goesOn (row : List Bool) : sd.GoesOn (sd.codeRow p row) := by
  have appended := sd.packer.append_packs (budget := sd.budget) (rowCode p.runOrder sd.previous row)
  have ended := appended.trans (Packer.finish_packs _)
  unfold SideContext.codeRow
  dsimp only
  split_ifs
  · exact (packed_goesOn appended sd.previous sd.outRow sd.phase).trans goOversize_goesOn
  · exact packed_goesOn appended _ _ sd.phase
  · exact (packed_goesOn ended (some row) (sd.outRow + 1) sd.phase).trans goOversize_goesOn
  · exact packed_goesOn ended _ _ _

theorem SideContext.takeRow_goesOn (bytes : List Byte) : sd.GoesOn (sd.takeRow d p bytes) := by
  have columns (nextRow : Nat) (sums : List Accumulator) (trackers ink : List Nat) :
      sd.GoesOn { sd with nextRow := nextRow, accumulators := sums, trackers := trackers, inkCounters := ink } :=
    ⟨rfl, rfl, rfl, rfl, .refl _, .refl _, le_rfl, id⟩
  unfold SideContext.takeRow SideContext.finishRow
  dsimp only
  split
  · exact (columns (sd.nextRow + 1) (freshAccumulators sd.wo) _ _).trans (codeRow_goesOn _)
  · exact columns (sd.nextRow + 1) _ sd.trackers sd.inkCounters

theorem SideContext.takeRows_goesOn (fuel : Nat) : sd.GoesOn (sd.takeRows d p fuel) := by
  induction fuel generalizing sd with
  | zero => exact .refl
  | succ fuel ih =>
    unfold SideContext.takeRows
    split
    · split
      · next bytes later found =>
        have fewer : later.Sublist sd.reads := by
          unfold SideContext.nextRowBytes at found
          dsimp only at found
          split at found <;> cases found
          exact List.dropWhile_sublist _
        have waits : sd.GoesOn { sd with reads := later } := ⟨rfl, rfl, rfl, rfl, fewer, .refl _, le_rfl, id⟩
        exact (waits.trans (takeRow_goesOn bytes)).trans ih
      · exact .refl
    · exact .refl

theorem SideContext.writeEnded_goesOn (index : Nat) (result : WriteEnd) : sd.GoesOn (sd.writeEnded index result) := by
  unfold SideContext.writeEnded
  split
  · exact dropWrite_goesOn index
  · exact dropWrite_goesOn index
  · exact (dropWrite_goesOn index).trans (fail_goesOn _)

theorem SideContext.RequestsValid.goesOn (h : sd.RequestsValid d out) (goes : sd.GoesOn sd') :
    sd'.RequestsValid d out where
  nextByte := goes.readOff ▸ h.nextByte
  reads r hr := by
    rw [goes.readRow, goes.readOff]
    exact h.reads r (goes.reads.subset hr)
  readOrder := h.readOrder.sublist goes.reads
  writes w hw := by
    obtain ⟨bytes, address, sent⟩ := h.writes w (goes.writes.subset hw)
    rw [goes.offset]
    exact ⟨bytes, address, sent.trans goes.sent⟩
  writeOrder := h.writeOrder.sublist goes.writes
  budget := goes.counted h.budget

/-! ### What is issued -/

theorem freshAttempt_requestsValid (used : 0 < d.usedBytes) (offset budget step : Nat) :
    (freshAttempt d p offset budget step).RequestsValid d out where
  nextByte := used
  reads := nofun
  readOrder := .nil
  writes := nofun
  writeOrder := .nil
  budget := ⟨le_rfl, Nat.zero_le _⟩

theorem requestSize_bounds (wanted : Nat) {room : Nat} (h : 0 < room) :
    1 ≤ requestSize wanted room ∧ requestSize wanted room ≤ room := by
  unfold requestSize
  omega

/-- A read issued asks for the next used bytes of its row (R64). -/
theorem SideContext.RequestsValid.issueRead (h : sd.RequestsValid d out) (row : sd.readRow < d.hs) (wanted : Nat) :
    (sd.issueRead d wanted).RequestsValid d out := by
  have next := h.nextByte
  obtain ⟨some', within⟩ := requestSize_bounds wanted (room := d.usedBytes - sd.readOff) (by omega)
  have order (r : SourceRead) (last : r.row = sd.readRow ∧ r.off = sd.readOff) :
      (sd.reads ++ [r]).Pairwise fun r r' => r.row < r'.row ∨ r.row = r'.row ∧ r.off + r.len ≤ r'.off := by
    refine List.pairwise_append.2 ⟨h.readOrder, List.pairwise_singleton .., fun x hx y hy => ?_⟩
    rw [List.mem_singleton.1 hy, last.1, last.2]
    obtain ⟨-, -, -, -, -, before⟩ := h.reads x hx
    exact before
  unfold SideContext.issueRead
  dsimp only
  split
  · next more =>
    refine ⟨more, fun r hr => ?_, order _ ⟨rfl, rfl⟩, h.writes, h.writeOrder, h.budget⟩
    obtain hr | hr := List.mem_append.1 hr
    · obtain ⟨inside, len, used, address, bytes, before⟩ := h.reads r hr
      exact ⟨inside, len, used, address, bytes, before.imp id fun same => ⟨same.1, same.2.trans (Nat.le_add_right ..)⟩⟩
    · rw [List.mem_singleton.1 hr]
      exact ⟨row, some', more.le, rfl, nofun, .inr ⟨rfl, le_rfl⟩⟩
  · refine ⟨(Nat.zero_le _).trans_lt next, fun r hr => ?_, order _ ⟨rfl, rfl⟩, h.writes, h.writeOrder, h.budget⟩
    obtain hr | hr := List.mem_append.1 hr
    · obtain ⟨inside, len, used, address, bytes, before⟩ := h.reads r hr
      have above : r.row < sd.readRow + 1 := by omega
      exact ⟨inside, len, used, address, bytes, .inl above⟩
    · rw [List.mem_singleton.1 hr]
      exact ⟨row, some', by dsimp only; omega, rfl, nofun, .inl (Nat.lt_succ_self _)⟩

theorem SideContext.RequestsValid.issueReads (h : sd.RequestsValid d out) (draw n i : Nat) :
    (sd.issueReads d draw n i).RequestsValid d out := by
  induction n generalizing sd i with
  | zero => exact h
  | succ n ih =>
    unfold SideContext.issueReads
    split
    · next row => exact ih (h.issueRead row _) (i + 1)
    · exact h

theorem SideContext.RequestsValid.pumpReads (h : sd.RequestsValid d out) (draw : Nat) :
    (sd.pumpReads d draw).RequestsValid d out := by
  unfold SideContext.pumpReads
  split
  · exact h.issueReads ..
  · exact h

/-- A write issued carries the first of the waiting bytes, at their address (R51, R104). -/
theorem SideContext.RequestsValid.issueWrite (h : sd.RequestsValid d out) (waiting : sd.packer.waiting.isEmpty = false)
    (wanted : Nat) : (sd.issueWrite out wanted).RequestsValid d out := by
  have some' : 0 < sd.packer.waiting.length := List.length_pos_iff.2 (by simpa using waiting)
  obtain ⟨positive, within⟩ := requestSize_bounds wanted some'
  obtain ⟨counted, budget⟩ := h.budget
  refine ⟨h.nextByte, h.reads, h.readOrder, fun w hw => ?_, ?_, ⟨?_, budget⟩⟩
  · obtain hw | hw := List.mem_append.1 hw
    · obtain ⟨bytes, address, sent⟩ := h.writes w hw
      refine ⟨bytes, address, sent.trans ?_⟩
      simp only [SideContext.issueWrite, List.length_drop]
      omega
    · rw [List.mem_singleton.1 hw]
      simp only [SideContext.issueWrite, List.length_take, List.length_drop, true_and]
      omega
  · refine List.pairwise_append.2 ⟨h.writeOrder, List.pairwise_singleton .., fun x hx y hy => ?_⟩
    rw [List.mem_singleton.1 hy]
    exact (h.writes x hx).2.2
  · simp only [SideContext.issueWrite, List.length_drop]
    omega

theorem SideContext.RequestsValid.issueWrites (h : sd.RequestsValid d out) (draw n i : Nat) :
    (sd.issueWrites out draw n i).RequestsValid d out := by
  induction n generalizing sd i with
  | zero => exact h
  | succ n ih =>
    unfold SideContext.issueWrites
    split
    · exact h
    · next waiting => exact ih (h.issueWrite (Bool.eq_false_iff.2 waiting) _) (i + 1)

theorem SideContext.RequestsValid.pump (h : sd.RequestsValid d out) (draw : Nat) :
    (sd.pump d out draw).RequestsValid d out := by
  refine SideContext.RequestsValid.pumpReads ?_ draw
  unfold SideContext.pumpWrites
  split
  · exact h.issueWrites ..
  · exact h.issueWrites ..
  · exact h.issueWrites ..
  · exact h

/-- What is issued leaves the side's place in the output area as it is. -/
theorem SideContext.pump_place (sd : SideContext) (d : SideDescriptor) (out : Addr) (draw : Nat) :
    (sd.pump d out draw).offset = sd.offset ∧ (sd.pump d out draw).budget = sd.budget := by
  have reads (x : SideContext) : (x.pumpReads d draw).offset = x.offset ∧ (x.pumpReads d draw).budget = x.budget := by
    obtain ⟨-, _, _, _, -, e⟩ | ⟨-, e⟩ := x.pumpReads_cases d draw <;> rw [e] <;> exact ⟨rfl, rfl⟩
  have issued (n : Nat) : (sd.issueWrites out draw n 0).offset = sd.offset ∧
      (sd.issueWrites out draw n 0).budget = sd.budget := by
    obtain ⟨_, _, -, -, e⟩ := sd.issueWrites_cases out draw n 0
    rw [e]
    exact ⟨rfl, rfl⟩
  have writes : (sd.pumpWrites out draw).offset = sd.offset ∧ (sd.pumpWrites out draw).budget = sd.budget := by
    unfold SideContext.pumpWrites
    split
    · exact issued _
    · exact issued _
    · exact issued _
    · exact ⟨rfl, rfl⟩
  exact ⟨(reads _).1.trans writes.1, (reads _).2.trans writes.2⟩

/-! ### The end of a read -/

/-- No two reads of an attempt ask for the same byte. -/
theorem SideContext.RequestsValid.read_unique (h : sd.RequestsValid d out) {r r' : SourceRead} (hr : r ∈ sd.reads)
    (hr' : r' ∈ sd.reads) (row : r.row = r'.row) (off : r.off = r'.off) : r = r' := by
  have apart : sd.reads.Pairwise fun x y => x.row ≠ y.row ∨ x.off ≠ y.off :=
    h.readOrder.imp_of_mem fun {x y} hx _ ordered => by
      obtain ⟨-, len, -⟩ := h.reads x hx
      omega
  by_contra other
  have symm : Std.Symm fun x y : SourceRead => x.row ≠ y.row ∨ x.off ≠ y.off :=
    ⟨fun _ _ e => e.imp Ne.symm Ne.symm⟩
  obtain e | e := apart.forall hr hr' other
  · exact e row
  · exact e off

/-- A read found is in flight. -/
theorem SideContext.findRead_mem {row off : Nat} {r : SourceRead} (h : sd.findRead row off = some r) :
    r ∈ sd.reads ∧ r.row = row ∧ r.off = off ∧ r.bytes = none := by
  have found := List.find?_some h
  simp only [Bool.and_eq_true, beq_iff_eq, Option.isNone_iff_eq_none] at found
  exact ⟨List.mem_of_find?_eq_some h, found.1.1, found.1.2, found.2⟩

theorem SideContext.RequestsValid.returnRead (h : sd.RequestsValid d out) {row off : Nat} {bytes : List Byte}
    (accepts : sd.accepts row off (.ok bytes) = true) : (sd.returnRead row off bytes).RequestsValid d out := by
  have length {r : SourceRead} (hr : r ∈ sd.reads) (same : r.row = row ∧ r.off = off) : bytes.length = r.len := by
    unfold SideContext.accepts at accepts
    split at accepts
    · next x bytes' found e =>
      cases e
      obtain ⟨hx, xrow, xoff, -⟩ := SideContext.findRead_mem found
      rw [h.read_unique hr hx (same.1.trans xrow.symm) (same.2.trans xoff.symm)]
      exact beq_iff_eq.1 accepts
    · next e => cases e
    · cases accepts
  refine ⟨h.nextByte, fun r hr => ?_, ?_, h.writes, h.writeOrder, h.budget⟩
  · obtain ⟨x, hx, rfl⟩ := List.mem_map.1 hr
    obtain ⟨inside, len, used, address, returned, before⟩ := h.reads x hx
    split
    · next same =>
      refine ⟨inside, len, used, address, fun bytes' e => ?_, before⟩
      cases e
      exact length (r := x) hx same
    · exact ⟨inside, len, used, address, returned, before⟩
  · have place (x : SourceRead) :
        (if x.row = row ∧ x.off = off then { x with bytes := some bytes } else x).row = x.row ∧
        (if x.row = row ∧ x.off = off then { x with bytes := some bytes } else x).off = x.off ∧
        (if x.row = row ∧ x.off = off then { x with bytes := some bytes } else x).len = x.len := by
      split <;> exact ⟨rfl, rfl, rfl⟩
    refine List.pairwise_map.2 (h.readOrder.imp fun {x y} ordered => ?_)
    rw [(place x).1, (place x).2.1, (place x).2.2, (place y).1, (place y).2.1]
    exact ordered

theorem SideContext.RequestsValid.readEnded (h : sd.RequestsValid d out) {row off : Nat}
    {result : ReadEnd (List Byte)} (accepts : sd.accepts row off result = true) :
    (sd.readEnded d p row off result).RequestsValid d out := by
  unfold SideContext.readEnded
  split
  · exact (h.returnRead accepts).goesOn (SideContext.takeRows_goesOn _)
  · exact h.goesOn ((SideContext.dropRead_goesOn row off).trans (SideContext.fail_goesOn _))
  · exact h.goesOn (SideContext.dropRead_goesOn row off)

theorem SideContext.readEnded_place (sd : SideContext) (row off : Nat) (result : ReadEnd (List Byte)) :
    (sd.readEnded d p row off result).offset = sd.offset ∧ (sd.readEnded d p row off result).budget = sd.budget := by
  unfold SideContext.readEnded
  split
  · next bytes _ =>
    have goes := SideContext.takeRows_goesOn (sd := sd.returnRead row off bytes) (d := d) (p := p)
      (sd.returnRead row off bytes).reads.length
    exact ⟨goes.offset, goes.budget⟩
  · exact ⟨rfl, rfl⟩
  · exact ⟨rfl, rfl⟩

theorem beginAttempt_requestsValid (used : 0 < d.usedBytes) (offset budget step draw : Nat) :
    (beginAttempt d p offset budget step draw).RequestsValid d out :=
  (freshAttempt_requestsValid used offset budget step).pumpReads draw

theorem beginAttempt_place (d : SideDescriptor) (p : Profile) (offset budget step draw : Nat) :
    (beginAttempt d p offset budget step draw).offset = offset ∧
      (beginAttempt d p offset budget step draw).budget = budget := by
  unfold beginAttempt
  obtain ⟨-, _, _, _, -, e⟩ | ⟨-, e⟩ := (freshAttempt d p offset budget step).pumpReads_cases d draw <;> rw [e] <;>
    exact ⟨rfl, rfl⟩

end

end Sys2Proof.Machine
end

section
/-! Every step keeps the notice sets, the addresses and the units' requests valid: what each block's own events keep,
and what the dispatcher's work keeps of the lanes. -/

namespace Sys2Proof.Machine

/-! ### The units' requests -/

section

variable {copy : List Byte} {p : Fin 16} {it : ItemContext}

/-- A present side of an admitted item has a used byte (R46). -/
theorem usedBytes_pos_of_admitted (h : admission copy = .admitted p) {d : SideDescriptor}
    (present : d ∈ presentSides copy) : 0 < d.usedBytes := by
  unfold admission at h
  split_ifs at h with _ _ geometry _ depth
  have wide : 64 ≤ d.ws := by
    by_contra narrow
    exact geometry (List.any_eq_true.2 ⟨d, present, decide_eq_true (.inl (Nat.lt_of_not_le narrow))⟩)
  have deep : d.depth = 4 ∨ d.depth = 8 := by
    by_contra other
    exact depth (List.any_eq_true.2 ⟨d, present, decide_eq_true (not_or.1 other)⟩)
  rw [SideDescriptor.usedBytes_eq]
  obtain e | e := deep <;> rw [e] <;> omega

theorem frontDescriptor_mem (copy : List Byte) : frontDescriptor copy ∈ presentSides copy := by
  unfold presentSides
  split <;> exact List.mem_cons_self

theorem rearDescriptor_mem (present : itemRearPresent copy = true) : rearDescriptor copy ∈ presentSides copy := by
  simp [presentSides, present]

/-- A side begun after the front lies within the capacity (R50). -/
theorem offset_add_rearBudget_le {p : Profile} {capacity offset : Nat} (h : rearBudget p capacity offset ≠ 0) :
    offset + rearBudget p capacity offset ≤ capacity := by
  unfold rearBudget at *
  split_ifs at * with below
  · omega
  · exact absurd rfl h

theorem enterFront_requestsValid (admitted : admission it.copy = .admitted it.profile) (draw : Nat) :
    (enterFront it draw).RequestsValid := by
  refine ⟨admitted, ?_, beginAttempt_requestsValid (usedBytes_pos_of_admitted admitted (frontDescriptor_mem _)) ..⟩
  rw [(beginAttempt_place ..).1, (beginAttempt_place ..).2, Nat.zero_add]
  exact min_le_right ..

theorem frontEnds_requestsValid (admitted : admission it.copy = .admitted it.profile) (r : SideResult) (draw : Nat) :
    (frontEnds it r draw).RequestsValid := by
  unfold frontEnds
  dsimp only
  split_ifs with rear error empty
  · trivial
  · trivial
  · refine ⟨admitted, rear, ?_, beginAttempt_requestsValid (usedBytes_pos_of_admitted admitted (rearDescriptor_mem rear)) ..⟩
    rw [(beginAttempt_place ..).1, (beginAttempt_place ..).2]
    exact offset_add_rearBudget_le empty
  · trivial

variable {u r : ReductionUnit} {d : SideDescriptor} {sd : SideContext} {draw : Nat}

theorem ReductionUnit.RequestsValid.settle (h : u.RequestsValid) (draw : Nat) : (u.settle draw).RequestsValid := by
  cases u with
  | front it sd =>
    have ⟨admitted, place, _⟩ := h
    unfold ReductionUnit.settle
    dsimp only
    split
    · exact h
    · refine ⟨admitted, ?_, beginAttempt_requestsValid (usedBytes_pos_of_admitted admitted (frontDescriptor_mem _)) ..⟩
      rwa [(beginAttempt_place ..).1, (beginAttempt_place ..).2]
    · exact frontEnds_requestsValid admitted ..
  | rear it f sd =>
    have ⟨admitted, present, place, _⟩ := h
    unfold ReductionUnit.settle
    dsimp only
    split
    · exact h
    · refine ⟨admitted, present, ?_,
        beginAttempt_requestsValid (usedBytes_pos_of_admitted admitted (rearDescriptor_mem present)) ..⟩
      rwa [(beginAttempt_place ..).1, (beginAttempt_place ..).2]
    · trivial
  | _ => exact h

/-- The attempt of a unit with valid requests, and the unit with another attempt at the same place. -/
theorem ReductionUnit.RequestsValid.attempt (h : u.RequestsValid) (attempt : u.attempt = some (it, d, sd)) :
    sd.RequestsValid d (itemOutputAddress it.copy) ∧ ∀ sd' : SideContext, sd'.offset = sd.offset →
      sd'.budget = sd.budget → sd'.RequestsValid d (itemOutputAddress it.copy) → (u.withSide sd').RequestsValid := by
  obtain ⟨rfl, rfl⟩ | ⟨f, rfl, rfl⟩ := u.attempt_cases it d sd attempt
  · obtain ⟨admitted, place, requests⟩ := h
    refine ⟨requests, fun sd' offset budget valid => ⟨admitted, ?_, valid⟩⟩
    rwa [offset, budget]
  · obtain ⟨admitted, rear, place, requests⟩ := h
    refine ⟨requests, fun sd' offset budget valid => ⟨admitted, rear, ?_, valid⟩⟩
    rwa [offset, budget]

theorem ReductionUnit.RequestEnd.requestsValid (e : u.RequestEnd draw r) (h : u.RequestsValid) : r.RequestsValid := by
  cases e with
  | @read it d sd row off result attempt accepts =>
    obtain ⟨valid, withSide⟩ := h.attempt attempt
    have place := (sd.readEnded d it.fields row off result).pump_place d (itemOutputAddress it.copy) draw
    have kept := sd.readEnded_place (d := d) (p := it.fields) row off result
    exact (withSide _ (place.1.trans kept.1) (place.2.trans kept.2) ((valid.readEnded accepts).pump draw)).settle draw
  | @write it d sd index result attempt accepts =>
    obtain ⟨valid, withSide⟩ := h.attempt attempt
    have place := (sd.writeEnded index result).pump_place d (itemOutputAddress it.copy) draw
    have goes := sd.writeEnded_goesOn index result
    exact (withSide _ (place.1.trans goes.offset) (place.2.trans goes.budget)
      ((valid.goesOn goes).pump draw)).settle draw

theorem ReductionUnit.requestsValid_kept : ReductionUnit.KeptByDispatch ReductionUnit.RequestsValid :=
  ⟨trivial, nofun, fun n copy p admitted q same => by rwa [← Option.some.inj same]⟩

end

/-! ### What the dispatcher's work keeps of the lanes -/

/-- A predicate on a lane that a grant and a report begun keep. -/
structure Lane.KeptByDispatch (P : LaneNo → Lane → Prop) : Prop where
  granted : ∀ n l, P n l → P n { l with state := .active }
  reported : ∀ n l r, P n l → P n (l.beginReport r)

section

variable {P : LaneNo → Lane → Prop} {s t : State}

theorem State.setLane_keeps (h : ∀ n : LaneNo, P n s.lanes[n]) (n : LaneNo) {l : Lane} (hl : P n l) (m : LaneNo) :
    P m (s.setLane n l).lanes[m] := by
  rw [State.setLane_lane]
  split
  · next same =>
    rw [same]
    exact hl
  · exact h m

theorem State.grant_keepsLanes (kept : Lane.KeptByDispatch P) (h : ∀ n : LaneNo, P n s.lanes[n])
    (grant : s.grant = some t) : ∀ n : LaneNo, P n t.lanes[n] := by
  obtain ⟨-, u, n, -, -, rfl⟩ := s.grant_cases t grant
  exact State.setLane_keeps h n (kept.granted n _ (h n))

theorem State.grantAll_keepsLanes (kept : Lane.KeptByDispatch P) (h : ∀ n : LaneNo, P n s.lanes[n]) (fuel : Nat) :
    ∀ n : LaneNo, P n (s.grantAll fuel).lanes[n] := by
  induction fuel generalizing s with
  | zero => exact h
  | succ fuel ih =>
    cases grant : s.grant with
    | none => simpa only [State.grantAll, grant] using h
    | some s' => simpa only [State.grantAll, grant] using ih (State.grant_keepsLanes kept h grant)

theorem State.admitUnit_keepsLanes (kept : Lane.KeptByDispatch P) (h : ∀ n : LaneNo, P n s.lanes[n]) (u : UnitNo) :
    ∀ n : LaneNo, P n (s.admitUnit u).lanes[n] := by
  obtain e | ⟨n, copy, -, ⟨code, -, e⟩ | ⟨p, -, e⟩⟩ := s.admitUnit_cases u <;> rw [e]
  · exact h
  · exact State.setLane_keeps (s := s.setUnit u .idle) h n (kept.reported n _ _ (h n))
  · exact h

theorem State.dispatchRounds_keepsLanes (kept : Lane.KeptByDispatch P) (h : ∀ n : LaneNo, P n s.lanes[n])
    (fuel : Nat) : ∀ n : LaneNo, P n (s.dispatchRounds fuel).lanes[n] := by
  induction fuel generalizing s with
  | zero => exact h
  | succ fuel ih =>
    cases grant : s.grant with
    | none => simpa only [State.dispatchRounds, grant] using h
    | some s' =>
      have round := State.admitUnit_keepsLanes kept (State.admitUnit_keepsLanes kept
        (State.grantAll_keepsLanes kept (State.grant_keepsLanes kept h grant) 1) 0) 1
      simpa only [State.dispatchRounds, grant] using ih round

theorem State.dispatch_keepsLanes (kept : Lane.KeptByDispatch P) (h : ∀ n : LaneNo, P n s.lanes[n]) :
    ∀ n : LaneNo, P n s.dispatch.lanes[n] :=
  State.dispatchRounds_keepsLanes kept h 9

theorem State.putUnit_keepsLanes (kept : Lane.KeptByDispatch P) (h : ∀ n : LaneNo, P n s.lanes[n]) (u : UnitNo)
    (r : ReductionUnit) : ∀ n : LaneNo, P n (s.putUnit u r).lanes[n] := by
  obtain ⟨it, front, rear, -, e⟩ | ⟨-, e⟩ := s.putUnit_cases u r <;> rw [e]
  · exact State.dispatch_keepsLanes kept
      (State.setLane_keeps (s := (s.setUnit u r).setUnit u .idle) h it.lane (kept.reported _ _ _ (h it.lane)))
  · exact h

/-- The two resets (R178, R179). -/
abbrev IsReset (c : Instr) : Prop := (∃ w, c = .engineReset w) ∨ ∃ r, c = .coldReset r

/-- What every effect keeps of the lanes, when the lanes' own events, a halt and the resets keep it. -/
theorem State.Effect.keepsLanes {c : Instr} (e : s.Effect c t) (kept : Lane.KeptByDispatch P)
    (asked : ∀ n l, P n l → P n { l with holds := true, state := .holding, request := none })
    (frozen : ∀ n l, P n l → P n l.freeze) (reset : IsReset c → ∀ n, P n Lane.reset)
    (event : ∀ n l, s.lanes[n].Event s.area n (s.engine = .running) c l → P n s.lanes[n] → P n l)
    (ends : ∀ n l, s.lanes[n].RequestEnd s.area s.epoch n c l → P n s.lanes[n] → P n l)
    (h : ∀ n : LaneNo, P n s.lanes[n]) : ∀ n : LaneNo, P n t.lanes[n] := by
  have fresh (isReset : IsReset c) (n : LaneNo) : P n ((Vector.replicate 8 Lane.reset)[n]) := by
    rw [show (Vector.replicate 8 Lane.reset)[n] = Lane.reset by simp]
    exact reset isReset n
  cases e with
  | @controlled _ w run =>
    obtain ⟨_, _, e⟩ := (s.writeModes w).writeRun_eq run
    rw [e]
    exact h
  | engineReset => exact fresh (.inl ⟨_, rfl⟩)
  | coldReset => exact fresh (.inr ⟨_, rfl⟩)
  | @area _ which v =>
    obtain ⟨_, _, e⟩ := s.writeArea_eq which v
    rw [e]
    exact h
  | @lane _ n l _ event' => exact State.setLane_keeps h n (event n l event' (h n))
  | @requestEnd _ n l _ ends' => exact State.setLane_keeps h n (ends n l ends' (h n))
  | halted =>
    intro n
    rw [show s.halt.lanes[n] = s.lanes[n].freeze by simp [State.halt]]
    exact frozen n _ (h n)
  | @asksUnit _ n =>
    exact State.dispatch_keepsLanes kept (State.setLane_keeps h n (asked n s.lanes[n] (h n)))
  | @store _ n st r => exact State.setLane_keeps (s := s.setStore st) h n (kept.reported n _ r (h n))
  | @unit _ u r => exact State.putUnit_keepsLanes kept (s := s.nextDraw) h u r
  | _ => exact h

end

/-! ### The addresses of a lane -/

section

variable {l l' : Lane} {area : Addr} {n : LaneNo} {epoch : Nat} {c : Instr} {running : Prop}

theorem Lane.AddressesAligned.enterStopped (h : l.AddressesAligned) : (l.enterStopped area n).AddressesAligned := h

theorem Lane.AddressesAligned.checkBoundary (h : l.AddressesAligned) : (l.checkBoundary area n).AddressesAligned := by
  obtain ⟨-, e⟩ | ⟨-, e⟩ := l.checkBoundary_cases area n <;> rw [e] <;> exact h

theorem Lane.AddressesAligned.findNothing (h : l.AddressesAligned) : (l.findNothing area n).AddressesAligned := by
  obtain ⟨-, e⟩ | ⟨-, -, e⟩ | ⟨-, -, e⟩ := l.findNothing_cases area n <;> rw [e]
  · exact h.checkBoundary
  · exact h
  · exact h

theorem Lane.AddressesAligned.startSequence (h : l.AddressesAligned) : (l.startSequence area n).AddressesAligned := by
  have cursor : (if l.state = LaneState.idle then 0 else l.cursor).toNat % 64 = 0 := by
    split
    · rfl
    · exact h.1
  unfold Lane.startSequence
  dsimp only
  split <;> exact ⟨cursor, h.2⟩

theorem Lane.AddressesAligned.takeStart (h : l.AddressesAligned) : (l.takeStart area n).AddressesAligned := by
  obtain ⟨-, e⟩ | ⟨-, e⟩ | ⟨-, e⟩ := l.takeStart_cases area n <;> rw [e]
  · exact h.startSequence
  · exact h.checkBoundary
  · exact h

theorem Lane.Event.addressesAligned (e : l.Event area n running c l') (h : l.AddressesAligned) :
    l'.AddressesAligned := by
  cases e with
  | started => exact h.takeStart
  | stopped => obtain ⟨-, e⟩ | ⟨-, e⟩ | ⟨-, e⟩ := l.takeStop_cases area n <;> rw [e] <;> exact h
  | posted =>
    obtain ⟨-, e⟩ | ⟨-, e⟩ | ⟨-, e⟩ := l.takePost_cases area n <;> rw [e]
    · exact h
    · exact h.checkBoundary
    · exact h
  | ticked => exact h
  | underflowed => exact h

theorem Lane.RequestEnd.addressesAligned (e : l.RequestEnd area epoch n c l') (h : l.AddressesAligned) :
    l'.AddressesAligned := by
  cases e with
  | atBoundary => exact h.checkBoundary
  | foundNothing => exact h.findNothing
  | followed _ aligned => exact ⟨h.1, aligned⟩
  | skipped => exact ⟨h.2, h.2⟩
  | finished => exact ⟨h.2, h.2⟩
  | reported => exact Lane.AddressesAligned.checkBoundary (l := { l with
      timer := l.timer.completion.1, copy := none, report := none }) h
  | _ => exact h

theorem State.Effect.addressesAligned {s t : State} (e : s.Effect c t) (h : ∀ n : LaneNo, s.lanes[n].AddressesAligned) :
    ∀ n : LaneNo, t.lanes[n].AddressesAligned :=
  e.keepsLanes (P := fun _ l => l.AddressesAligned) ⟨fun _ _ h => h, fun _ _ _ h => h⟩ (fun _ _ h => h)
    (fun _ _ h => h) (fun _ _ => by decide) (fun _ _ event => event.addressesAligned)
    (fun _ _ ends => ends.addressesAligned) h

end

/-! ### AREA -/

theorem append_low_toNat (high low : Word) : (high ++ low : BitVec 64).toNat = high.toNat * 2 ^ 32 + low.toNat := by
  rw [BitVec.toNat_append, Nat.shiftLeft_eq, ← Nat.shiftLeft_eq, Nat.shiftLeft_add_eq_or_of_lt low.isLt]

/-- A write to a word of AREA keeps it aligned (R169). -/
theorem State.AreaAligned.writeArea {s : State} (h : s.AreaAligned) (which : AreaWord) (v : Word) :
    (s.writeArea which v).AreaAligned := by
  unfold State.writeArea
  split
  · exact h
  · cases which with
    | low =>
      show ((s.area.extractLsb' 32 32 ++ (v.extractLsb' 12 20 ++ 0#12) : BitVec 64)).toNat % 4096 = 0
      rw [append_low_toNat, BitVec.toNat_append]
      simp only [BitVec.toNat_ofNat, Nat.shiftLeft_eq, Nat.zero_mod, Nat.or_zero]
      omega
    | high =>
      show ((v ++ s.area.extractLsb' 0 32 : BitVec 64)).toNat % 4096 = 0
      rw [append_low_toNat, BitVec.extractLsb'_toNat]
      have aligned := h
      simp only [State.AreaAligned, Nat.shiftRight_zero] at *
      omega

theorem State.Effect.areaAligned {s t : State} {c : Instr} (e : s.Effect c t) (h : s.AreaAligned) : t.AreaAligned := by
  cases e with
  | @controlled _ w run =>
    obtain ⟨_, _, e⟩ := (s.writeModes w).writeRun_eq run
    rw [e]
    exact h
  | coldReset => rfl
  | area => exact h.writeArea ..
  | asksUnit => rwa [State.AreaAligned, (State.requestUnit_beside ..).area]
  | unit => rwa [State.AreaAligned, (State.putUnit_beside ..).area]
  | _ => exact h

/-! ### The notice controller -/

/-- What an effect does to the notice controller: a change taken whole, or a message and the resets. -/
theorem State.Effect.notice_cases {s t : State} {c : Instr} (e : s.Effect c t) :
    s.notice.Changed t.notice ∨ (∃ o, c = .message o ∧ t.notice = s.notice.issueMessage o) ∨
      (∃ w, c = .engineReset w ∧ t.notice = s.notice.engineReset) ∨
      ∃ r, c = .coldReset r ∧ t.notice = NoticeController.reset := by
  cases e with
  | noticed change => exact .inl change
  | @message o => exact .inr (.inl ⟨o, rfl, rfl⟩)
  | taken change => exact .inl change
  | @controlled _ w run =>
    obtain ⟨_, _, e⟩ := (s.writeModes w).writeRun_eq run
    rw [e]
    exact .inl (s.notice.configure_changed ..)
  | @engineReset w => exact .inr (.inr (.inl ⟨w, rfl, rfl⟩))
  | @coldReset r => exact .inr (.inr (.inr ⟨r, rfl, rfl⟩))
  | @area _ which v =>
    obtain ⟨_, _, e⟩ := s.writeArea_eq which v
    rw [e]
    exact .inl s.notice.changed_self
  | lane _ raised => exact .inl raised.changed
  | requestEnd _ raised => exact .inl raised.changed
  | halted => exact .inl (s.notice.raise_changed 0)
  | asksUnit =>
    rw [(State.requestUnit_beside ..).notice]
    exact .inl s.notice.changed_self
  | unit =>
    rw [(State.putUnit_beside ..).notice]
    exact .inl s.notice.changed_self
  | _ => exact .inl s.notice.changed_self

section

variable {c c' : NoticeController}

theorem NoticeController.become_due (h : c.due = true → c.inFlight = true) :
    (c'.become c).due = true → (c'.become c).inFlight = true := by
  obtain ⟨-, -, e⟩ | ⟨-, e⟩ := c'.become_cases c <;> rw [e]
  · exact fun _ => c.makeDue_inFlight
  · exact h

theorem NoticeController.Changed.valid (e : c.Changed c') (h : c.Valid) : c'.Valid := by
  obtain ⟨b, rfl, inFlight, due, -, -, service⟩ := e
  refine ⟨fun autoEnd x => ?_, NoticeController.become_due (by rw [due, inFlight]; exact h.2)⟩
  rw [NoticeController.become_mode] at autoEnd
  rw [NoticeController.become_inService]
  obtain none | ⟨mode, fewer⟩ := service
  · rw [none]
    simp [SourceSet.empty]
  · have before : c.mode = .autoEnd := mode.symm.trans autoEnd
    by_contra inService
    rw [Bool.not_eq_false] at inService
    exact Bool.false_ne_true ((h.1 before x).symm.trans (fewer before x inService))

theorem NoticeController.Valid.issueMessage (h : c.Valid) (o : MessageOutlet) : (c.issueMessage o).Valid := by
  unfold NoticeController.issueMessage
  split
  · exact ⟨h.1, nofun⟩
  · exact h

end

/-- Settles O59: a change taken whole keeps the notice sets, the addresses move to the docket the check follows or
to 0, and every event of an attempt keeps its requests. -/
theorem everyStepKeepsNoticesValidAndAddressesAligned :
    Obligations.EveryStepKeepsNoticesValidAndAddressesAligned := by
  refine ⟨fun s t valid stepped => ?_, fun s t area lanes stepped => ?_, fun s t units stepped => ?_⟩ <;>
    obtain rfl | ⟨c, rest, effect⟩ := step_cases stepped
  · exact valid
  · obtain change | ⟨o, -, e⟩ | ⟨_, -, e⟩ | ⟨_, -, e⟩ := effect.notice_cases
    · exact change.valid valid
    · rw [e]
      exact valid.issueMessage o
    · rw [e]
      exact ⟨nofun, nofun⟩
    · rw [e]
      exact ⟨nofun, nofun⟩
  · refine ⟨area, fun n => ?_⟩
    rw [show s.microsecond.lanes[n] = { s.lanes[n] with timer := s.lanes[n].timer.microsecond } by simp [State.microsecond]]
    exact lanes n
  · exact ⟨effect.areaAligned area, effect.addressesAligned lanes⟩
  · exact units
  · exact effect.keepsUnits ReductionUnit.requestsValid_kept
      (fun u n copy p admitting => enterFront_requestsValid (by
        have admitted := units u
        simp only at admitting
        rw [admitting] at admitted
        exact admitted p rfl) _)
      (fun _ _ _ h ends => ends.requestsValid h) units

end Sys2Proof.Machine
end

section
/-! Rules over all commands: what alone makes a message due, leaves or enters HALTED, or changes a lane's books, its
cursor, a profile or the dropped flag. -/

namespace Sys2Proof.Machine

/-! ### Messages -/

section

variable (c b : NoticeController)

/-- The condition after a change is that of the change: messages have no part in it (R158). -/
theorem NoticeController.become_condition : (c.become b).condition = b.condition := by
  obtain ⟨-, -, e⟩ | ⟨-, e⟩ := c.become_cases b <;> rw [e]
  obtain ⟨-, e⟩ | ⟨-, e⟩ := b.makeDue_cases <;> rw [e] <;> rfl

variable {c b} {c' : NoticeController}

/-- A change makes a message due by a rise of the condition alone (R164, R165). -/
theorem NoticeController.Changed.messages (h : c.Changed c') :
    (c.condition = false → c'.condition = true → c'.inFlight = true ∧ c'.due = (c.due || c.inFlight)) ∧
      (¬(c.condition = false ∧ c'.condition = true) → c'.inFlight = c.inFlight ∧ c'.due = c.due) ∧
      c'.sent = c.sent ∧ c'.lastSent = c.lastSent := by
  obtain ⟨b, rfl, inFlight, due, sent, lastSent, -⟩ := h
  rw [NoticeController.become_condition, (c.become_sets b).sent, (c.become_sets b).lastSent]
  refine ⟨fun low high => ?_, fun noRise => ?_, sent, lastSent⟩
  · obtain ⟨-, -, e⟩ | ⟨noRise, -⟩ := c.become_cases b
    · rw [e]
      refine ⟨b.makeDue_inFlight, ?_⟩
      obtain ⟨flying, e⟩ | ⟨flying, e⟩ := b.makeDue_cases <;> rw [e] <;> simp [← inFlight, ← due, flying]
    · exact absurd ⟨low, high⟩ noRise
  · obtain ⟨low, high, -⟩ | ⟨-, e⟩ := c.become_cases b
    · exact absurd ⟨low, high⟩ noRise
    · rw [e]
      exact ⟨inFlight, due⟩

end

/-- Settles O19: but for MESSAGE and the resets, an effect leaves the controller a change taken whole. -/
theorem messagesFollowRises : Obligations.MessagesFollowRises := by
  intro c s t wf h message engineReset coldReset
  obtain change | ⟨o, e, -⟩ | ⟨w, e, -⟩ | ⟨r, e, -⟩ := (State.Effect.of_exec wf h).notice_cases
  · exact change.messages
  · exact absurd e (message o)
  · exact absurd e (engineReset w)
  · exact absurd e (coldReset r)

/-! ### The engine state -/

section

variable {s t : State} {c : Instr}

theorem State.writeRun_halted (s : State) (run : Bool) : (s.writeRun run).engine = .halted ↔ s.engine = .halted := by
  obtain e | e | ⟨before, -, -, e⟩ | ⟨before, -, -, e⟩ := s.writeRun_cases run <;> rw [e]
  · rw [State.drop_engine]
  · simp [before]
  · simp [before]

/-- HALTED is left by a reset and entered by a device-half write that fails (R36, R176). -/
theorem State.Effect.halted_iff (e : s.Effect c t) :
    (t.engine = .halted ↔ s.engine = .halted) ∨ (IsReset c ∧ t.engine = .disabled) ∨
      t.engine = .halted ∧ ∃ n, FailsRecordWrite s.epoch n c := by
  cases e with
  | @controlled _ w run => exact .inl ((s.writeModes w).writeRun_halted run)
  | @engineReset w => exact .inr (.inl ⟨.inl ⟨w, rfl⟩, rfl⟩)
  | @coldReset r => exact .inr (.inl ⟨.inr ⟨r, rfl⟩, rfl⟩)
  | @area _ which v =>
    obtain ⟨_, _, e⟩ := s.writeArea_eq which v
    rw [e]
    exact .inl .rfl
  | @halted _ n fails => exact .inr (.inr ⟨rfl, n, fails⟩)
  | asksUnit =>
    rw [(State.requestUnit_beside ..).engine]
    exact .inl .rfl
  | unit =>
    rw [(State.putUnit_beside ..).engine]
    exact .inl .rfl
  | _ => exact .inl .rfl

/-! ### The dropped flag and the profiles -/

theorem State.Effect.dropped_cases (e : s.Effect c t) :
    t.dropped = s.dropped ∨ t.dropped = true ∨ (∃ v : Word, v.getLsbD 8 = true ∧ c = .statusWrite v) ∨ IsReset c := by
  cases e with
  | dropped => exact .inr (.inl rfl)
  | @controlled _ w run =>
    obtain e | e | ⟨-, -, -, e⟩ | ⟨-, -, -, e⟩ := (s.writeModes w).writeRun_cases run <;> rw [e]
    · exact .inl rfl
    · exact .inr (.inl rfl)
    · exact .inl rfl
    · exact .inl rfl
  | @engineReset w => exact .inr (.inr (.inr (.inl ⟨w, rfl⟩)))
  | @coldReset r => exact .inr (.inr (.inr (.inr ⟨r, rfl⟩)))
  | @area _ which v =>
    obtain ⟨-, e⟩ | ⟨-, a, e⟩ := s.writeArea_cases which v <;> rw [e]
    · exact .inr (.inl rfl)
    · exact .inl rfl
  | @status v clears => exact .inr (.inr (.inl ⟨v, clears, rfl⟩))
  | asksUnit => exact .inl (State.requestUnit_beside ..).dropped
  | unit => exact .inl (State.putUnit_beside ..).dropped
  | _ => exact .inl rfl

/-- Profiles change when NOW or OPEN is taken and at a cold reset (R121, R130, R133). -/
theorem State.Effect.profiles_cases (e : s.Effect c t) :
    t.store.profiles = s.store.profiles ∨ (∃ n, c = .stageNow n) ∨ (∃ n, c = .openBundle n) ∨ ∃ r, c = .coldReset r := by
  cases e with
  | @controlled _ w run =>
    obtain ⟨_, _, e⟩ := (s.writeModes w).writeRun_eq run
    rw [e]
    exact .inl rfl
  | @coldReset r => exact .inr (.inr (.inr ⟨r, rfl⟩))
  | @area _ which v =>
    obtain ⟨_, _, e⟩ := s.writeArea_eq which v
    rw [e]
    exact .inl rfl
  | asksUnit =>
    rw [(State.requestUnit_beside ..).store]
    exact .inl rfl
  | unit =>
    rw [(State.putUnit_beside ..).store]
    exact .inl rfl
  | store _ taken =>
    cases taken with
    | @applied n => exact .inr (.inl ⟨n, rfl⟩)
    | @opened n => exact .inr (.inr (.inl ⟨n, rfl⟩))
    | _ => exact .inl rfl
  | _ => exact .inl rfl

end

/-! ### A lane's books and its cursor -/

/-- What step 3 of a report alone writes into: the bundle, the finished count and the last sequence (R31). -/
structure Lane.SameBooks (l l' : Lane) : Prop where
  bundle : l'.bundle = l.bundle
  finished : l'.finished = l.finished
  lastSequence : l'.lastSequence = l.lastSequence

section

variable {l l' : Lane} {area : Addr} {n : LaneNo} {epoch : Nat} {c : Instr} {running : Prop}

theorem Lane.SameAccount.books (h : l.SameAccount l') : l.SameBooks l' := ⟨h.bundle, h.finished, h.lastSequence⟩

theorem Lane.takeStart_books : l.SameBooks (l.takeStart area n) := by
  obtain ⟨-, e⟩ | ⟨-, e⟩ | ⟨-, e⟩ := l.takeStart_cases area n <;> rw [e]
  · unfold Lane.startSequence
    dsimp only
    split <;> exact ⟨rfl, rfl, rfl⟩
  · exact (l.checkBoundary_account area n).books
  · exact ⟨rfl, rfl, rfl⟩

theorem Lane.takeStop_account : l.SameAccount (l.takeStop area n) := by
  obtain ⟨-, e⟩ | ⟨-, e⟩ | ⟨-, e⟩ := l.takeStop_cases area n <;> rw [e] <;> exact ⟨rfl, rfl, rfl, rfl, rfl⟩

theorem Lane.takePost_account : l.SameAccount (l.takePost area n) := by
  obtain ⟨-, e⟩ | ⟨-, e⟩ | ⟨-, e⟩ := l.takePost_cases area n <;> rw [e]
  · exact ⟨rfl, rfl, rfl, rfl, rfl⟩
  · exact l.checkBoundary_account area n
  · exact ⟨rfl, rfl, rfl, rfl, rfl⟩

/-- The check boundary after a report, with the completion event given and the copy discarded (R31). -/
theorem Lane.reported_account : l.SameAccount ({ l with
    timer := l.timer.completion.1, copy := none, report := none }.checkBoundary area n) := by
  obtain ⟨cursor, finished, skipped, lastSequence, bundle⟩ := Lane.checkBoundary_account area n { l with
    timer := l.timer.completion.1, copy := none, report := none }
  exact ⟨cursor, finished, skipped, lastSequence, bundle⟩

theorem Lane.Event.books (e : l.Event area n running c l') : l.SameBooks l' := by
  cases e with
  | started => exact Lane.takeStart_books
  | stopped => exact Lane.takeStop_account.books
  | posted => exact Lane.takePost_account.books
  | ticked => exact ⟨rfl, rfl, rfl⟩
  | underflowed => exact ⟨rfl, rfl, rfl⟩

theorem Lane.RequestEnd.books (e : l.RequestEnd area epoch n c l') :
    l.SameBooks l' ∨ c = .stateWordWriteDone n ⟨epoch, .ok⟩ := by
  cases e with
  | atBoundary => exact .inl (l.checkBoundary_account area n).books
  | foundNothing => exact .inl (l.findNothing_account area n).books
  | finished => exact .inr rfl
  | reported => exact .inl Lane.reported_account.books
  | _ => exact .inl ⟨rfl, rfl, rfl⟩

/-- A START in IDLE alone puts the cursor back (R22, R23). -/
theorem Lane.takeStart_cursor (h : l.state ≠ .idle) : (l.takeStart area n).cursor = l.cursor := by
  obtain ⟨-, e⟩ | ⟨-, e⟩ | ⟨-, e⟩ := l.takeStart_cases area n <;> rw [e]
  · unfold Lane.startSequence
    dsimp only
    split <;> rfl
  · exact (l.checkBoundary_account area n).cursor

theorem Lane.Event.cursor (e : l.Event area n running c l') :
    l'.cursor = l.cursor ∨ ∃ b : Byte, b.toNat = n.val ∧ c = .start b ∧ l.state = .idle := by
  cases e with
  | @started b named =>
    by_cases idle : l.state = .idle
    · exact .inr ⟨b, named, rfl, idle⟩
    · exact .inl (Lane.takeStart_cursor idle)
  | stopped => exact .inl Lane.takeStop_account.cursor
  | posted => exact .inl Lane.takePost_account.cursor
  | ticked => exact .inl rfl
  | underflowed => exact .inl rfl

/-- The commands at which a lane's cursor follows its docket (R12, R31). -/
def MovesOn (epoch : Nat) (n : LaneNo) (c : Instr) : Prop :=
  c = .stateWordWriteDone n ⟨epoch, .ok⟩ ∨ c = .stateWordReadDone n ⟨epoch, .ok 5⟩ ∨ c = .claimDone n ⟨epoch, .ok 5⟩

theorem Lane.RequestEnd.cursor (e : l.RequestEnd area epoch n c l') : l'.cursor = l.cursor ∨ MovesOn epoch n c := by
  cases e with
  | atBoundary => exact .inl (l.checkBoundary_account area n).cursor
  | foundNothing => exact .inl (l.findNothing_account area n).cursor
  | skipped _ found => exact .inr (.inr found)
  | finished => exact .inr (.inl rfl)
  | reported => exact .inl Lane.reported_account.cursor
  | _ => exact .inl rfl

/-- Whatever the effect, a lane keeps its books but for step 3 of its own report and the resets. -/
theorem State.Effect.books {s t : State} (e : s.Effect c t) :
    ∀ n : LaneNo, s.lanes[n].SameBooks t.lanes[n] ∨ c = .stateWordWriteDone n ⟨s.epoch, .ok⟩ ∨ IsReset c :=
  e.keepsLanes (P := fun n l => s.lanes[n].SameBooks l ∨ c = .stateWordWriteDone n ⟨s.epoch, .ok⟩ ∨ IsReset c)
    ⟨fun _ _ h => h.imp_left fun h => ⟨h.1, h.2, h.3⟩, fun _ _ _ h => h.imp_left fun h => ⟨h.1, h.2, h.3⟩⟩
    (fun _ _ h => h.imp_left fun h => ⟨h.1, h.2, h.3⟩) (fun _ _ h => h.imp_left fun h => ⟨h.1, h.2, h.3⟩)
    (fun reset _ => .inr (.inr reset)) (fun _ _ event _ => .inl event.books)
    (fun _ _ ends _ => ends.books.imp id .inl) fun _ => .inl ⟨rfl, rfl, rfl⟩

/-- Whatever the effect, a lane's cursor stays but for its own skip and report, a START in IDLE and the resets. -/
theorem State.Effect.cursor {s t : State} (e : s.Effect c t) (n : LaneNo) : t.lanes[n].cursor = s.lanes[n].cursor ∨
    MovesOn s.epoch n c ∨ (∃ b : Byte, b.toNat = n.val ∧ c = .start b ∧ s.lanes[n].state = .idle) ∨ IsReset c :=
  e.keepsLanes (P := fun n l => l.cursor = s.lanes[n].cursor ∨ MovesOn s.epoch n c ∨
      (∃ b : Byte, b.toNat = n.val ∧ c = .start b ∧ s.lanes[n].state = .idle) ∨ IsReset c)
    ⟨fun _ _ h => h, fun _ _ _ h => h⟩ (fun _ _ h => h) (fun _ _ h => h) (fun reset _ => .inr (.inr (.inr reset)))
    (fun _ _ event _ => event.cursor.imp id fun start => .inr (.inl start))
    (fun _ _ ends _ => ends.cursor.imp id .inl) (fun _ => .inl rfl) n

end

/-- Settles O56: each clause by the effects that have a hand in it. -/
theorem onlyTheseCommandsChange : Obligations.OnlyTheseCommandsChange := by
  intro c s t wf h
  have effect := State.Effect.of_exec wf h
  refine ⟨fun halted left => ?_, fun other halted => ?_, fun n changed => ?_, fun n moved => ?_, fun changed => ?_,
    fun set clear => ?_⟩
  · obtain same | ⟨reset, -⟩ | ⟨halted', -⟩ := effect.halted_iff
    · exact absurd (same.2 halted) left
    · exact reset
    · exact absurd halted' left
  · obtain same | ⟨-, disabled⟩ | ⟨-, fails⟩ := effect.halted_iff
    · exact absurd (same.1 halted) other
    · cases disabled.symm.trans halted
    · exact fails
  · obtain ⟨bundle, finished, last⟩ | named := effect.books n
    · exact (changed.elim (absurd bundle) (Or.elim · (absurd finished) (absurd last)))
    · exact named
  · obtain same | (c | c | c) | start | reset := effect.cursor n
    · exact absurd same moved
    · exact .inl c
    · exact .inr (.inl c)
    · exact .inr (.inr (.inl c))
    · exact .inr (.inr (.inr (.inl start)))
    · exact .inr (.inr (.inr (.inr reset)))
  · exact effect.profiles_cases.resolve_left changed
  · obtain same | set' | named := effect.dropped_cases
    · rw [same, set] at clear
      cases clear
    · cases set'.symm.trans clear
    · exact named

/-- Settles O57: after a cold reset nothing is in flight, every value lies in its range, and no unit is bound. -/
theorem resetSatisfiesTheInvariants : Obligations.ResetSatisfiesTheInvariants := by
  have unit (u : UnitNo) : State.reset.units[u] = .idle := by simp [State.reset]
  have lane (n : LaneNo) : State.reset.lanes[n] = Lane.reset := by simp [State.reset]
  refine ⟨ProfileStore.reset_valid, fun u => ?_, ⟨nofun, nofun⟩, rfl, fun n => ?_,
    State.controlValid_of_reset rfl rfl rfl rfl rfl, fun u => ?_⟩
  · rw [unit]
    trivial
  · rw [lane]
    exact ⟨rfl, rfl⟩
  · rw [unit]
    trivial

end Sys2Proof.Machine
end

section
/-! The queue and the writes to LANE: what a step takes, and what each action does in each state. -/

namespace Sys2Proof.Machine

/-! ### The queue -/

/-- Settles O1: the step's own equation on a queue that is not empty. -/
theorem stepRunsFrontCommand : Obligations.StepRunsFrontCommand := fun _ _ _ => rfl

theorem Timer.tickDue_microsecond (t : Timer) : t.microsecond.tickDue =
    (t.running && decide (2 ^ t.prescale ≤ t.interval + 1)) := by
  unfold Timer.microsecond
  split
  · next running => simp [Timer.tickDue, running]
  · next stopped => simp [Timer.tickDue, stopped]

theorem Timer.microsecond_eq (t : Timer) :
    t.microsecond = { t with interval := if t.running then t.interval + 1 else t.interval } := by
  unfold Timer.microsecond
  split <;> rfl

theorem State.microsecond_lane (s : State) (n : LaneNo) :
    s.microsecond.lanes[n] = { s.lanes[n] with timer := s.lanes[n].timer.microsecond } := by
  simp [State.microsecond]

/-- Settles O2: on an empty queue a step is the microsecond, and the ticks due are its whole queue. -/
theorem emptyQueueLetsAMicrosecondPass : Obligations.EmptyQueueLetsAMicrosecondPass := by
  intro s empty due
  have stepped : step s = .next s.microsecond := by simp only [step, empty]
  refine ⟨_, stepped, rfl, fun n => ?_, ?_⟩
  · rw [State.microsecond_lane, Timer.microsecond_eq]
  · have queue : s.microsecond.pending = ((List.finRange 8).filter fun n => s.microsecond.lanes[n].timer.tickDue).map
        fun n => tickCommand n s.microsecond.lanes[n].timer := by
      show s.pending ++ _ = _
      rw [empty]
      rfl
    have counter (t : Timer) : t.microsecond.counter = t.counter := by rw [Timer.microsecond_eq]
    rw [queue]
    simp only [State.microsecond_lane, Timer.tickDue_microsecond, tickCommand, counter]
    rfl

/-! ### LANE -/

section

variable (s : State) {lane : Byte} (a : LaneAction)

theorem State.passAction_running (h : lane.toNat < 8) (running : s.engine = .running) : s.passAction lane a =
    s.setLane ⟨lane.toNat, h⟩ (s.lanes[(⟨lane.toNat, h⟩ : LaneNo)].act s.area ⟨lane.toNat, h⟩ a) := by
  rw [State.passAction, dif_pos h, if_pos running]

theorem State.passAction_dropped (h : s.engine ≠ .running ∨ 8 ≤ lane.toNat) : s.passAction lane a = s.drop := by
  obtain ⟨running, n, named, -⟩ | ⟨-, e⟩ := s.passAction_cases lane a
  · exact absurd h (not_or.2 ⟨not_not_intro running, by omega⟩)
  · exact e

end

section

variable {l : Lane} (area : Addr) (n : LaneNo)

theorem Lane.not_recordWriteInFlight (h : ∀ occasion a bytes, l.request ≠ some (.recordWrite occasion a bytes)) :
    l.recordWriteInFlight = false := by
  unfold Lane.recordWriteInFlight
  split
  · next e => exact absurd e (h _ _ _)
  · rfl

theorem Lane.takeStart_rest (h : l.state = .idle ∨ l.state = .stopped ∨ l.state = .faulted) :
    l.takeStart area n = l.startSequence area n := by
  obtain e | e | e := h <;> simp only [Lane.takeStart, e]

theorem Lane.act_rest (h : l.state = .idle ∨ l.state = .stopped ∨ l.state = .faulted) :
    l.takeStop area n = l ∧ l.takePost area n = l := by
  obtain e | e | e := h <;> simp only [Lane.takeStop, Lane.takePost, e, and_self]

theorem Lane.act_working (h : l.state = .checking ∨ l.state = .holding ∨ l.state = .active) :
    l.takeStart area n = { l with postLatch := true } ∧ l.takePost area n = { l with postLatch := true } ∧
      l.takeStop area n = { l with stopPending := true } := by
  obtain e | e | e := h <;> simp only [Lane.takeStart, Lane.takePost, Lane.takeStop, e, and_self]

theorem Lane.act_waiting (h : l.state = .waiting) : l.takeStart area n = l.checkBoundary area n ∧
    l.takePost area n = l.checkBoundary area n ∧ l.takeStop area n = l.enterStopped area n := by
  simp only [Lane.takeStart, Lane.takePost, Lane.takeStop, h, and_self]

theorem Lane.checkBoundary_clear (h : l.stopPending = false) : l.checkBoundary area n = l.beginCheck area n := by
  rw [Lane.checkBoundary, h]
  rfl

theorem Lane.checkBoundary_stop (h : l.stopPending = true) : l.checkBoundary area n = l.enterStopped area n := by
  rw [Lane.checkBoundary, h]
  rfl

end

/-- Settles O4: the start sequence from a rest state, by whether a device-half write is in flight. -/
theorem startFromRestRunsTheStartSequence : Obligations.StartFromRestRunsTheStartSequence := by
  intro s lane h running n l l' rest
  have start : exec (.start lane) s = .next (s.setLane n (l.startSequence s.area n)) := by
    rw [← Lane.takeStart_rest s.area n rest]
    exact congrArg _ (s.passAction_running .start h running)
  refine ⟨fun free => ?_, fun occasion a bytes writing => ?_⟩
  · rw [start, Lane.startSequence, Lane.not_recordWriteInFlight free]
    rfl
  · rw [start, Lane.startSequence, Lane.recordWriteInFlight_of_request writing]
    rfl

/-- Settles O5: the table of R22 in the working states and at rest. -/
theorem laneActionsSetFlagsOrDoNothing : Obligations.LaneActionsSetFlagsOrDoNothing := by
  intro s lane h running n l
  have passed (a : LaneAction) : s.passAction lane a = s.setLane n (l.act s.area n a) :=
    s.passAction_running a h running
  refine ⟨fun working => ?_, fun rest => ?_⟩
  · obtain ⟨start, post, stop⟩ := Lane.act_working s.area n working
    exact ⟨congrArg _ ((passed .start).trans (congrArg _ start)), congrArg _ ((passed .post).trans (congrArg _ post)),
      congrArg _ ((passed .stop).trans (congrArg _ stop))⟩
  · obtain ⟨stop, post⟩ := Lane.act_rest s.area n rest
    exact ⟨congrArg _ ((passed .stop).trans ((congrArg _ stop).trans (s.setLane_self n))),
      congrArg _ ((passed .post).trans ((congrArg _ post).trans (s.setLane_self n)))⟩

/-- Settles O6: in WAITING a START and a POST are check boundaries, and a STOP enters STOPPED. -/
theorem laneActionsInWaiting : Obligations.LaneActionsInWaiting := by
  intro s lane h running n l waiting
  have passed (a : LaneAction) : s.passAction lane a = s.setLane n (l.act s.area n a) :=
    s.passAction_running a h running
  obtain ⟨start, post, stop⟩ := Lane.act_waiting s.area n waiting
  refine ⟨fun clear => ?_, congrArg _ ((passed .stop).trans (congrArg _ stop))⟩
  have check := Lane.checkBoundary_clear s.area n clear
  exact ⟨congrArg _ ((passed .start).trans (congrArg _ (start.trans check))),
    congrArg _ ((passed .post).trans (congrArg _ (post.trans check)))⟩

/-! ### Writes that are dropped -/

theorem windowWrite_of_other_width (s : State) {offset size : Nat} (h : size ≠ 4 ∨ offset % 4 ≠ 0) (v : Word) :
    windowWrite s offset size v = s.drop := by
  refine if_neg fun both => ?_
  obtain ⟨width, aligned⟩ := both
  exact h.elim (absurd width) (absurd aligned)

theorem State.writeRegister_no_register (s : State) {offset : Nat}
    (h : offset ∉ [0x000, 0x008, 0x010, 0x014, 0x018, 0x020, 0x028]) (v : Word) : s.writeRegister offset v = s.drop := by
  unfold State.writeRegister
  split
  case h_8 => rfl
  all_goals exact absurd (by decide) h

theorem State.writeLane_unknown (s : State) {v : Word}
    (h : (v.extractLsb' 8 8).toNat = 0 ∨ 4 ≤ (v.extractLsb' 8 8).toNat) : s.writeLane v = s.drop := by
  unfold State.writeLane
  split
  case h_4 => rfl
  all_goals omega

theorem State.writeNotice_unknown (s : State) {v : Word}
    (h : (v.extractLsb' 8 8).toNat = 0 ∨ 7 ≤ (v.extractLsb' 8 8).toNat) : s.writeNotice v = s.drop := by
  unfold State.writeNotice
  dsimp only
  split
  case h_7 => rfl
  all_goals omega

/-- Settles O7: a LANE write not passed on, and the writes of the window that no register takes. -/
theorem droppedWritesSetTheFlagAlone : Obligations.DroppedWritesSetTheFlagAlone := by
  refine ⟨fun s lane h => ?_, fun s offset size v => ⟨fun other => ?_, fun width aligned unknown => ?_, rfl⟩⟩
  · have dropped (a : LaneAction) := s.passAction_dropped (lane := lane) a h
    exact ⟨congrArg _ (dropped .start), congrArg _ (dropped .stop), congrArg _ (dropped .post)⟩
  · exact congrArg _ (windowWrite_of_other_width s other v)
  · have routed : exec (.unmappedWrite offset size v) s = .next (s.writeRegister offset.toNat v) :=
      congrArg _ (if_pos ⟨width, aligned⟩)
    rw [routed]
    obtain none | ⟨rfl, action⟩ | ⟨rfl, command⟩ := unknown
    · exact congrArg _ (s.writeRegister_no_register none v)
    · exact congrArg _ (s.writeLane_unknown action)
    · exact congrArg _ (s.writeNotice_unknown command)

end Sys2Proof.Machine
end

section
/-! CONTROL, AREA, STATUS and the resets: the whole state after each. -/

namespace Sys2Proof.Machine

/-! ### The Run field -/

theorem LaneState.isRest_iff (st : LaneState) : st.isRest = true ↔ st = .idle ∨ st = .stopped ∨ st = .faulted := by
  cases st <;> decide

theorem Lane.recordWriteInFlight_eq_false_iff (l : Lane) :
    l.recordWriteInFlight = false ↔ ∀ occasion a bytes, l.request ≠ some (.recordWrite occasion a bytes) := by
  refine ⟨fun free occasion a bytes writing => ?_, Lane.not_recordWriteInFlight⟩
  cases free.symm.trans (Lane.recordWriteInFlight_of_request writing)

section

variable (s : State) (w : Word)

theorem State.allAtRest_iff : s.allAtRest = true ↔ ∀ n : LaneNo,
    (s.lanes[n].state = .idle ∨ s.lanes[n].state = .stopped ∨ s.lanes[n].state = .faulted) ∧
      ∀ occasion a bytes, s.lanes[n].request ≠ some (.recordWrite occasion a bytes) := by
  simp only [State.allAtRest, decide_eq_true_eq, LaneState.isRest_iff, Lane.recordWriteInFlight_eq_false_iff]

theorem exec_runSet : exec (.runSet w) s = .next ((s.writeModes w).writeRun true) := by
  have written : s.writeControl ((w &&& ~~~2) ||| 1) = (s.writeModes w).writeRun true := by
    simp [State.writeControl, State.writeModes]
  exact congrArg _ written

theorem exec_runClear : exec (.runClear w) s = .next ((s.writeModes w).writeRun false) := by
  have written : s.writeControl (w &&& ~~~3) = (s.writeModes w).writeRun false := by
    simp [State.writeControl, State.writeModes]
  exact congrArg _ written

end

section

variable {s : State}

theorem State.writeRun_set_disabled (h : s.engine = .disabled) :
    s.writeRun true = if s.area = 0 then s.drop else { s with engine := .running } := by
  simp only [State.writeRun, h]

theorem State.writeRun_set_other (h : s.engine ≠ .disabled) : s.writeRun true = s := by
  cases e : s.engine with
  | disabled => exact absurd e h
  | running => simp only [State.writeRun, e]
  | halted => simp only [State.writeRun, e]

theorem State.writeRun_clear_disabled (h : s.engine = .disabled) : s.writeRun false = s := by
  simp only [State.writeRun, h]

theorem State.writeRun_clear_running (h : s.engine = .running) :
    s.writeRun false = if s.allAtRest then { s with engine := .disabled } else s.drop := by
  simp only [State.writeRun, h]

theorem State.writeRun_clear_halted (h : s.engine = .halted) : s.writeRun false = s.drop := by
  simp only [State.writeRun, h]

end

/-- Settles O8: the modes, then Run = 1 in each engine state. -/
theorem runSetEntersRunning : Obligations.RunSetEntersRunning := by
  intro s w s'
  have run : exec (.runSet w) s = .next (s'.writeRun true) := exec_runSet s w
  rw [run]
  refine ⟨fun engine area => congrArg _ ?_, fun engine area => congrArg _ ?_, fun engine => congrArg _ ?_⟩
  · exact (State.writeRun_set_disabled (s := s') engine).trans (if_neg area)
  · exact (State.writeRun_set_disabled (s := s') engine).trans (if_pos area)
  · exact State.writeRun_set_other (s := s') engine

/-- Settles O9: the modes, then Run = 0 in each engine state. -/
theorem runClearLeavesRunningAtRest : Obligations.RunClearLeavesRunningAtRest := by
  intro s w s' atRest
  have run : exec (.runClear w) s = .next (s'.writeRun false) := exec_runClear s w
  have rest : s'.allAtRest = true ↔ atRest := s'.allAtRest_iff
  rw [run]
  refine ⟨fun engine rests => congrArg _ ?_, fun engine works => congrArg _ ?_, fun engine => congrArg _ ?_,
    fun engine => congrArg _ ?_⟩
  · exact (State.writeRun_clear_running (s := s') engine).trans (if_pos (rest.2 rests))
  · exact (State.writeRun_clear_running (s := s') engine).trans (if_neg (mt rest.1 works))
  · exact State.writeRun_clear_halted (s := s') engine
  · exact State.writeRun_clear_disabled (s := s') engine

/-! ### The resets -/

/-- Settles O10: ENGINE_RESET forces the reset bit, and the reset's own definition names every value. -/
theorem engineResetValues : Obligations.EngineResetValues := by
  intro s w
  have written : s.writeControl (w ||| 2) = s.engineReset := by simp [State.writeControl]
  exact congrArg _ written

/-- Settles O15: the reset state by name, and its CONTROL and STATUS words as they read. -/
theorem coldResetValues : Obligations.ColdResetValues := by
  intro s cause
  refine ⟨s.coldReset, rfl, rfl, rfl, rfl, rfl, fun n => ?_, fun n => ?_, rfl, rfl, fun u => ?_, fun p => ?_, rfl,
    fun x => ?_, rfl, rfl, rfl, rfl, rfl, rfl, rfl, ?_, ?_, rfl, rfl, rfl⟩
  · simp [State.coldReset, State.reset]
  · simp [State.coldReset, State.reset]
  · simp [State.coldReset, State.reset]
  · rw [show s.coldReset.store.profiles[p] = { fields := Profile.reset, generation := 0 } by
      simp [State.coldReset, State.reset, ProfileStore.reset]]
    exact ⟨rfl, rfl⟩
  · simp [State.coldReset, State.reset, NoticeController.reset, SourceSet.empty]
  · rfl
  · have status : s.coldReset.statusWord = 0x0000F000#32 := (show State.reset.statusWord = _ by decide)
    rw [windowRead_word _ _ rfl]
    exact congrArg (fun w : Word => leBytes 4 w.toNat) status

/-! ### The modes -/

section

variable (c : NoticeController)

/-- A mode and an enable set in one CONTROL write (R163, R164). -/
theorem NoticeController.configure_fields (m : NoticeMode) (on : Bool) :
    (c.configure m on).mode = m ∧ (c.configure m on).messageEnable = on ∧
      (c.configure m on).inService = (if m = c.mode then c.inService else Vector.replicate 9 false) ∧
      (c.configure m on).pending = c.pending ∧ (c.configure m on).masked = c.masked ∧
      (c.configure m on).lowest = c.lowest := by
  simp only [NoticeController.configure, NoticeController.become_mode, NoticeController.become_messageEnable,
    NoticeController.become_inService, NoticeController.become_pending, NoticeController.become_masked,
    NoticeController.become_lowest, SourceSet.empty, and_self]

theorem NoticeController.configure_self : c.configure c.mode c.messageEnable = c := by
  simp only [NoticeController.configure, if_true]
  exact c.become_self

end

theorem controlFields_bits : ∀ (run : Bool) (d : DispatchMode) (m : NoticeMode) (on : Bool),
    (controlFields run d m on).getLsbD 0 = run ∧ (controlFields run d m on).getLsbD 1 = false ∧
      dispatchModeOf ((controlFields run d m on).getLsbD 4) = d ∧
      noticeModeOf ((controlFields run d m on).getLsbD 5) = m ∧ (controlFields run d m on).getLsbD 8 = on := by
  intro run d m on
  cases run <;> cases d <;> cases m <;> cases on <;> decide

/-- A Run field written as it reads has no effect (R171). -/
theorem State.writeRun_runBit (s : State) : s.writeRun s.engine.runBit = s := by
  cases e : s.engine <;> simp only [State.writeRun, e, EngineState.runBit]

theorem State.writeControl_fields (s : State) (d : DispatchMode) (m : NoticeMode) (on : Bool) :
    s.writeControl (controlFields s.engine.runBit d m on) =
      { s with dispatchMode := d, notice := s.notice.configure m on } := by
  obtain ⟨run, reset, dispatch, mode, enable⟩ := controlFields_bits s.engine.runBit d m on
  simp only [State.writeControl, run, reset, dispatch, mode, enable, Bool.false_eq_true, if_false]
  exact State.writeRun_runBit { s with dispatchMode := d, notice := s.notice.configure m on }

/-- Settles O11: each mode command writes the other fields as they read. -/
theorem modeCommandsChangeTheirOwnField : Obligations.ModeCommandsChangeTheirOwnField := by
  intro s
  refine ⟨fun m => ?_, fun m => ?_, fun on => ?_, fun m on => s.notice.configure_fields m on⟩
  · have written := s.writeControl_fields m s.notice.mode s.notice.messageEnable
    rw [NoticeController.configure_self] at written
    exact congrArg _ written
  · obtain ⟨mode, enable, service, pending, masked, lowest⟩ := s.notice.configure_fields m s.notice.messageEnable
    exact ⟨_, congrArg _ (s.writeControl_fields s.dispatchMode m s.notice.messageEnable), mode, service, pending,
      masked, lowest, enable⟩
  · obtain ⟨mode, enable, service, pending, masked, lowest⟩ := s.notice.configure_fields s.notice.mode on
    exact ⟨_, congrArg _ (s.writeControl_fields s.dispatchMode s.notice.mode on), enable, mode,
      service.trans (if_pos rfl), pending, masked, lowest⟩

/-! ### AREA and STATUS -/

theorem extractLsb'_append_low {m n start len : Nat} (high : BitVec m) (low : BitVec n) (h : start + len ≤ n) :
    (high ++ low).extractLsb' start len = low.extractLsb' start len := by
  ext i hi
  simp [BitVec.getLsbD_append, show start + i < n by omega]

theorem extractLsb'_append_high {m n : Nat} (high : BitVec m) (low : BitVec n) :
    (high ++ low).extractLsb' n m = high := by
  ext i hi
  simp [BitVec.getLsbD_append, BitVec.getLsbD_eq_getElem hi]

/-- Settles O12: each word of AREA beside the other, and bit 8 of STATUS. -/
theorem areaAndStatusWrites : Obligations.AreaAndStatusWrites := by
  intro s v
  refine ⟨fun running which => congrArg _ (if_pos running), fun other => ⟨?_, ?_⟩, ?_⟩
  · have masked : (v.extractLsb' 12 20 ++ 0#12 : BitVec 32).extractLsb' 0 12 = 0 := extractLsb'_append_low _ _ (by decide)
    exact ⟨_, congrArg _ (if_neg other), extractLsb'_append_high (s.area.extractLsb' 32 32) _,
      (extractLsb'_append_low _ _ (by decide)).trans (extractLsb'_append_high (v.extractLsb' 12 20) 0#12),
      (extractLsb'_append_low _ _ (by decide)).trans masked⟩
  · exact ⟨_, congrArg _ (if_neg other), extractLsb'_append_high v _,
      (extractLsb'_append_low _ (s.area.extractLsb' 0 32) (by decide)).trans (BitVec.extractLsb'_eq_self)⟩
  · have written : s.writeStatus v = { s with dropped := if v.getLsbD 8 then false else s.dropped } := by
      unfold State.writeStatus
      split <;> rfl
    exact congrArg _ written

end Sys2Proof.Machine
end

section
/-! NOTICE: a read of the register window word by word, TAKE, the NOTICE commands and the message. -/

namespace Sys2Proof.Machine

/-! ### Reads of the window -/

theorem length_leBytes (n v : Nat) : (leBytes n v).length = n := by
  induction n generalizing v with
  | zero => rfl
  | succ n ih => rw [leBytes, List.length_cons, ih]

section

variable (s : State)

/-- A read within one word returns the addressed bytes of it, with its effect (R168). -/
theorem windowRead_within {offset size : Nat} (some' : 1 ≤ size) (within : offset % 4 + size ≤ 4) :
    windowRead s offset size =
      (((leBytes 4 (s.readRegister (offset - offset % 4)).1.toNat).drop (offset % 4)).take size,
        (s.readRegister (offset - offset % 4)).2) := by
  have narrow : size < 4 ∨ offset % 4 = 0 := by omega
  have one : ceilDiv (offset % 4 + size) 4 = 1 := by unfold ceilDiv; omega
  simp only [windowRead, if_pos narrow, one, State.readRegisters, List.append_nil]

/-- A narrow read that crosses into a second word (notes/assumptions/7.md). -/
theorem windowRead_crossing {offset size : Nat} (narrow : size < 4) (crosses : 4 < offset % 4 + size) :
    windowRead s offset size =
      ((windowRead s (offset - offset % 4) 4).1.drop (offset % 4) ++
        (windowRead (windowRead s (offset - offset % 4) 4).2 (offset - offset % 4 + 4) 4).1.take
          (offset % 4 + size - 4),
        (windowRead (windowRead s (offset - offset % 4) 4).2 (offset - offset % 4 + 4) 4).2) := by
  have two : ceilDiv (offset % 4 + size) 4 = 2 := by unfold ceilDiv; omega
  have inFirst : offset % 4 ≤ (leBytes 4 (s.readRegister (offset - offset % 4)).1.toNat).length := by
    rw [length_leBytes]
    omega
  have rest : size - (4 - offset % 4) = offset % 4 + size - 4 := by omega
  rw [windowRead_word _ (offset - offset % 4) (by omega), windowRead_word _ (offset - offset % 4 + 4) (by omega)]
  simp only [windowRead, if_pos (Or.inl narrow), two, State.readRegisters, List.append_nil,
    List.drop_append_of_le_length inFirst]
  rw [List.take_append, List.take_of_length_le (by rw [List.length_drop, length_leBytes]; omega), List.length_drop,
    length_leBytes, rest]

theorem windowRead_aligned {offset : Nat} (size : Nat) (aligned : offset % 4 = 0) : windowRead s offset size =
    ((State.readRegisters (ceilDiv size 4) offset s).1.take size, (State.readRegisters (ceilDiv size 4) offset s).2) := by
  simp only [windowRead, aligned, or_true, if_true, Nat.zero_add, Nat.sub_zero, List.drop_zero]

/-- A wide read at an aligned offset goes on with the rest on the state that its first word leaves (R168). -/
theorem windowRead_wide {offset size : Nat} (wide : 4 ≤ size) (aligned : offset % 4 = 0) : windowRead s offset size =
    ((windowRead s offset 4).1 ++ (windowRead (windowRead s offset 4).2 (offset + 4) (size - 4)).1,
      (windowRead (windowRead s offset 4).2 (offset + 4) (size - 4)).2) := by
  have more : ceilDiv size 4 = ceilDiv (size - 4) 4 + 1 := by unfold ceilDiv; omega
  have next : (offset + 4) % 4 = 0 := by omega
  rw [windowRead_word _ _ aligned, windowRead_aligned _ _ aligned, windowRead_aligned _ _ next, more]
  simp only [State.readRegisters]
  rw [List.take_append, length_leBytes, List.take_of_length_le (by rw [length_leBytes]; exact wide)]

/-- No read that does not reach NOTICE changes anything (R168). -/
theorem State.windowRead_beside {offset size : Nat} (h : offset + size ≤ 0x020 ∨ 0x024 ≤ offset) :
    (windowRead s offset size).2 = s := by
  unfold windowRead
  split
  · refine s.readRegisters_beside _ _ fun i hi => ?_
    unfold ceilDiv at hi
    omega
  · rfl

end

/-! ### CONTROL and STATUS as they read -/

theorem getLsbD_ofNat_word (n i : Nat) : (BitVec.ofNat 32 n).getLsbD i = decide (i < 32 ∧ n / 2 ^ i % 2 = 1) := by
  rw [BitVec.getLsbD_ofNat, Nat.testBit_eq_decide_div_mod_eq, Bool.decide_and]

theorem getLsbD_ofNat_above {n m i : Nat} (h : n < 2 ^ m) (hi : m ≤ i) : (BitVec.ofNat 32 n).getLsbD i = false := by
  rw [getLsbD_ofNat_word, Nat.div_eq_of_lt (h.trans_le (Nat.pow_le_pow_right (by decide) hi))]
  simp

theorem extractLsb'_ofNat_word (n : Nat) {start len : Nat} (h : start + len ≤ 32) :
    ((BitVec.ofNat 32 n).extractLsb' start len).toNat = n / 2 ^ start % 2 ^ len := by
  rw [BitVec.extractLsb'_toNat, BitVec.toNat_ofNat, Nat.shiftRight_eq_div_pow]
  have split : 2 ^ 32 = 2 ^ start * 2 ^ (32 - start) := by
    rw [← Nat.pow_add]
    congr 1
    omega
  rw [split, Nat.mod_mul_right_div_self]
  exact Nat.mod_mod_of_dvd _ (Nat.pow_dvd_pow 2 (by omega))

theorem toNat_lt_two (b : Bool) : b.toNat < 2 := by cases b <;> decide

theorem controlFields_named_bits (run : Bool) (d : DispatchMode) (m : NoticeMode) (on : Bool) :
    (controlFields run d m on).getLsbD 0 = run ∧ (controlFields run d m on).getLsbD 4 = decide (d = .rotating) ∧
      (controlFields run d m on).getLsbD 5 = decide (m = .autoEnd) ∧ (controlFields run d m on).getLsbD 8 = on := by
  cases run <;> cases d <;> cases m <;> cases on <;> decide

theorem controlFields_other_bits (run : Bool) (d : DispatchMode) (m : NoticeMode) (on : Bool) {i : Nat} (h₀ : i ≠ 0)
    (h₄ : i ≠ 4) (h₅ : i ≠ 5) (h₈ : i ≠ 8) : (controlFields run d m on).getLsbD i = false := by
  have bounds := And.intro (toNat_lt_two run) (And.intro (toNat_lt_two (dispatchBit d))
    (And.intro (toNat_lt_two (noticeBit m)) (toNat_lt_two on)))
  unfold controlFields
  by_cases small : i < 9
  · rw [getLsbD_ofNat_word, decide_eq_false_iff_not]
    interval_cases i <;> omega
  · exact getLsbD_ofNat_above (m := 9) (by omega) (by omega)

section

variable (s : State)

theorem sourceNumber_le (x : Option Source) : sourceNumber x ≤ 15 := by
  cases x with
  | none => exact le_rfl
  | some x => exact (Nat.le_of_lt_succ x.isLt).trans (by decide)

theorem EngineState.code_le (e : EngineState) : e.code ≤ 2 := by cases e <;> decide

theorem HaltCause.code_le (c : HaltCause) : c.code ≤ 1 := by cases c <;> decide

/-- The fields of STATUS, and 0 in every other bit (R174). -/
theorem State.statusWord_fields :
    (s.statusWord.extractLsb' 0 2).toNat = s.engine.code ∧ (s.statusWord.extractLsb' 2 2).toNat = s.haltCause.code ∧
      s.statusWord.getLsbD 8 = s.dropped ∧
      (s.statusWord.extractLsb' 12 4).toNat = sourceNumber s.notice.peek ∧ s.statusWord.getLsbD 16 = s.notice.line ∧
      ∀ i, 4 ≤ i → i < 8 ∨ 9 ≤ i ∧ i < 12 ∨ 17 ≤ i → s.statusWord.getLsbD i = false := by
  have engine := s.engine.code_le
  have cause := s.haltCause.code_le
  have number := sourceNumber_le s.notice.peek
  have dropped := toNat_lt_two s.dropped
  have line := toNat_lt_two s.notice.line
  have one (b : Bool) : decide (b.toNat = 1) = b := by cases b <;> rfl
  unfold State.statusWord
  refine ⟨?_, ?_, ?_, ?_, ?_, fun i above other => ?_⟩
  · rw [extractLsb'_ofNat_word _ (by decide)]
    omega
  · rw [extractLsb'_ofNat_word _ (by decide)]
    omega
  · refine (getLsbD_ofNat_word _ _).trans (Eq.trans ?_ (one s.dropped))
    rw [decide_eq_decide]
    omega
  · rw [extractLsb'_ofNat_word _ (by decide)]
    omega
  · refine (getLsbD_ofNat_word _ _).trans (Eq.trans ?_ (one s.notice.line))
    rw [decide_eq_decide]
    omega
  · by_cases small : i < 17
    · rw [getLsbD_ofNat_word, decide_eq_false_iff_not]
      interval_cases i <;> omega
    · exact getLsbD_ofNat_above (m := 17) (by omega) (by omega)

theorem State.readRegister_no_register {offset : Nat} (h : offset ∉ [0x000, 0x008, 0x010, 0x014, 0x020, 0x028]) :
    s.readRegister offset = (0, s) := by
  unfold State.readRegister
  split
  case h_7 => rfl
  all_goals exact absurd (by decide) h

end

/-- Settles O13: each register by its own word, and each form of read by the words it covers. -/
theorem registersReadTheirFieldsWordByWord : Obligations.RegistersReadTheirFieldsWordByWord := by
  constructor
  · intro s
    have word (offset : Nat) (aligned : offset % 4 = 0) : (windowRead s offset 4).1 =
        leBytes 4 (s.readRegister offset).1.toNat := by rw [windowRead_word s offset aligned]
    refine ⟨fun offset size => s.windowRead_beside, (word 0x000 rfl).trans (show leBytes 4 identWord.toNat = _ by decide),
      fun offset aligned none => ?_, (word 0x010 rfl).trans ?_, (word 0x014 rfl).trans ?_, ⟨s.controlWord, word 0x008 rfl, ?_⟩,
      ⟨s.statusWord, word 0x028 rfl, ?_⟩⟩
    · rw [word offset aligned, s.readRegister_no_register none]
      show leBytes 4 (0#32).toNat = _
      decide
    · show leBytes 4 (s.area.extractLsb' 0 32).toNat = _
      rw [BitVec.extractLsb'_toNat, Nat.shiftRight_zero]
    · show leBytes 4 (s.area.extractLsb' 32 32).toNat = _
      rw [BitVec.extractLsb'_toNat, Nat.shiftRight_eq_div_pow, Nat.mod_eq_of_lt (by omega)]
    · obtain ⟨run, dispatch, mode, enable⟩ :=
        controlFields_named_bits s.engine.runBit s.dispatchMode s.notice.mode s.notice.messageEnable
      refine ⟨run.trans ?_, dispatch, mode, enable, fun i h₀ h₄ h₅ h₈ => controlFields_other_bits _ _ _ _ h₀ h₄ h₅ h₈⟩
      cases s.engine <;> rfl
    · obtain ⟨engine, cause, dropped, number, line, other⟩ := s.statusWord_fields
      refine ⟨engine.trans ?_, cause.trans ?_, dropped, number.trans ?_, line, other⟩
      · cases s.engine <;> rfl
      · cases s.haltCause <;> rfl
      · cases s.notice.peek <;> rfl
  · intro s offset size word first
    refine ⟨fun some' _ within => ?_, fun narrow crosses => windowRead_crossing s narrow crosses,
      fun wide aligned => ?_, fun wide misaligned => windowRead_misaligned s offset size misaligned wide,
      fun o same => ?_⟩
    · have here : first = _ := windowRead_word s word (by omega)
      rw [windowRead_within s some' within, here]
    · have here : word = offset := by omega
      have read := windowRead_wide s wide aligned
      rw [← here] at read ⊢
      exact read
    · rw [← same]
      rfl

end Sys2Proof.Machine
end

section
/-! TAKE, the NOTICE commands and the message. -/

namespace Sys2Proof.Machine

section

variable {c : NoticeController}

theorem NoticeController.peek_eq_some {x : Source} (eligible : c.eligible x = true)
    (first : ∀ y : Source, c.eligible y = true → sourceRank c.lowest x ≤ sourceRank c.lowest y) : c.peek = some x :=
  highest_eq_some_iff.2 ⟨eligible, first⟩

theorem NoticeController.peek_eq_none (h : ∀ x : Source, c.eligible x = false) : c.peek = none :=
  highest_eq_none_iff.2 h

theorem NoticeController.topService_eq_some {x : Source} (inService : c.inService[x] = true)
    (first : ∀ y : Source, c.inService[y] = true → sourceRank c.lowest x ≤ sourceRank c.lowest y) :
    c.topService = some x :=
  highest_eq_some_iff.2 ⟨inService, first⟩

theorem NoticeController.topService_eq_none (h : ∀ x : Source, c.inService[x] = false) : c.topService = none :=
  highest_eq_none_iff.2 h

end

section

variable (s : State)

/-- A read within NOTICE's word is a TAKE of it (R159). -/
theorem exec_take_notice {offset : BitVec 12} {size : Nat} (low : 0x020 ≤ offset.toNat) (high : offset.toNat < 0x024)
    (some' : 1 ≤ size) (within : offset.toNat % 4 + size ≤ 4) : exec (.take offset size) s = .next
      { s with
        notice := s.notice.take
        readData := ((leBytes 4 (sourceNumber s.notice.peek)).drop (offset.toNat % 4)).take size } := by
  have word : offset.toNat - offset.toNat % 4 = 0x020 := by omega
  have read := windowRead_within s some' within
  have number : (BitVec.ofNat 32 (sourceNumber s.notice.peek)).toNat = sourceNumber s.notice.peek := by
    have small := sourceNumber_le s.notice.peek
    exact Nat.mod_eq_of_lt (by omega)
  rw [word] at read
  show Host.Outcome.next { (windowRead s offset.toNat size).2 with readData := (windowRead s offset.toNat size).1 } = _
  rw [read]
  show Host.Outcome.next { s with
    notice := s.notice.take
    readData := ((leBytes 4 (BitVec.ofNat 32 (sourceNumber s.notice.peek)).toNat).drop (offset.toNat % 4)).take size } = _
  rw [number]

theorem State.withSource_named {source : Byte} {x : Source} (named : x.val = source.toNat)
    (f : Source → NoticeController) : s.withSource source f = s.setNotice (f x) := by
  obtain ⟨y, same, e⟩ | ⟨above, -⟩ := s.withSource_cases source f
  · rw [e, Fin.ext (same.trans named.symm)]
  · omega

theorem State.withSource_above {source : Byte} (above : 9 ≤ source.toNat) (f : Source → NoticeController) :
    s.withSource source f = s.drop := by
  obtain ⟨y, same, -⟩ | ⟨-, e⟩ := s.withSource_cases source f
  · omega
  · exact e

end

/-- Settles O17: NOTICE reads as PEEK, and TAKE moves what PEEK names. -/
theorem takeReturnsTheHighestRankedSource : Obligations.TakeReturnsTheHighestRankedSource := by
  intro s offset size low high some' within bytes
  have read := exec_take_notice s low high some' within
  refine ⟨fun none => ?_, fun x eligible first => ⟨s.notice.take, ?_, ?_⟩⟩
  · have peek := NoticeController.peek_eq_none none
    rw [read, NoticeController.take, peek]
    rfl
  · rw [read, NoticeController.peek_eq_some eligible first]
    rfl
  · have sets := s.notice.become_sets { s.notice with
      pending := s.notice.pending.set x false
      inService := match s.notice.mode with
        | .nested => s.notice.inService.set x true
        | .autoEnd => s.notice.inService }
    rw [NoticeController.take, NoticeController.peek_eq_some eligible first]
    refine ⟨sets.pending, sets.inService.trans ?_, sets.masked, sets.lowest, sets.mode, sets.messageEnable⟩
    cases s.notice.mode <;> simp

/-- Settles O18: each command is a change taken whole of its own set or pointer. -/
theorem noticeCommands : Obligations.NoticeCommands := by
  refine ⟨fun s source => ⟨fun x named => ?_, fun above => ?_, fun none => ?_, fun x inService first => ⟨?_, ?_⟩⟩,
    fun s source => ⟨fun x named => ⟨?_, ?_, ?_⟩, fun above => ⟨?_, ?_, ?_⟩⟩⟩
  · have sets := s.notice.become_sets { s.notice with inService := s.notice.inService.set x false }
    exact ⟨_, congrArg _ (s.withSource_named named _), sets.inService, sets.lowest, sets.pending, sets.masked, sets.mode,
      sets.messageEnable⟩
  · exact congrArg _ (s.withSource_above above _)
  · have top := NoticeController.topService_eq_none none
    constructor
    · have idle : s.notice.endAny = s.notice := by rw [NoticeController.endAny, top]
      exact congrArg (fun c => Host.Outcome.next (s.setNotice c)) idle
    · have idle : s.notice.endAnyRotate = s.notice := by rw [NoticeController.endAnyRotate, top]
      exact congrArg (fun c => Host.Outcome.next (s.setNotice c)) idle
  · have sets := s.notice.become_sets { s.notice with inService := s.notice.inService.set x false }
    have ends : s.notice.endAny = s.notice.endSource x := by
      rw [NoticeController.endAny, NoticeController.topService_eq_some inService first]
    exact ⟨_, congrArg (fun c => Host.Outcome.next (s.setNotice c)) ends, sets.inService, sets.lowest, sets.pending,
      sets.masked, sets.mode, sets.messageEnable⟩
  · have sets := s.notice.become_sets { s.notice with inService := s.notice.inService.set x false, lowest := x }
    have ends : s.notice.endAnyRotate =
        s.notice.become { s.notice with inService := s.notice.inService.set x false, lowest := x } := by
      rw [NoticeController.endAnyRotate, NoticeController.topService_eq_some inService first]
    exact ⟨_, congrArg (fun c => Host.Outcome.next (s.setNotice c)) ends, sets.inService, sets.lowest, sets.pending,
      sets.masked, sets.mode, sets.messageEnable⟩
  · have sets := s.notice.become_sets { s.notice with lowest := x }
    exact ⟨_, congrArg _ (s.withSource_named named _), sets.lowest, sets.masked, sets.pending, sets.inService, sets.mode,
      sets.messageEnable⟩
  · have sets := s.notice.become_sets { s.notice with masked := s.notice.masked.set x true }
    exact ⟨_, congrArg _ (s.withSource_named named _), sets.lowest, sets.masked, sets.pending, sets.inService, sets.mode,
      sets.messageEnable⟩
  · have sets := s.notice.become_sets { s.notice with masked := s.notice.masked.set x false }
    exact ⟨_, congrArg _ (s.withSource_named named _), sets.lowest, sets.masked, sets.pending, sets.inService, sets.mode,
      sets.messageEnable⟩
  · exact congrArg _ (s.withSource_above above _)
  · exact congrArg _ (s.withSource_above above _)
  · exact congrArg _ (s.withSource_above above _)

theorem outletOpen_iff (o : MessageOutlet) :
    outletOpen o = true ↔ o.msiEnabled = true ∧ o.busMaster = true ∧ o.linkUp = true := by
  simp [outletOpen, and_assoc]

/-- Settles O20: the message in flight is sent when the outlet is open, and the due one follows. -/
theorem messageIsSentOrLost : Obligations.MessageIsSentOrLost := by
  intro s o isOpen
  have message {c : NoticeController} (issued : s.notice.issueMessage o = c) :
      exec (.message o) s = .next (s.setNotice c) := by rw [← issued]; rfl
  refine ⟨fun flying => message ?_, fun none => message ?_⟩
  · simp only [NoticeController.issueMessage, flying, if_true, outletOpen_iff]
    rfl
  · rw [NoticeController.issueMessage, none]
    rfl

end Sys2Proof.Machine
end

section
/-! The holdoff timers: ticks, underflows, and the settings of the host half. -/

namespace Sys2Proof.Machine

/-! ### Ticks and underflows -/

/-- An underflow of a running timer that is not OFF (R153). -/
theorem Timer.underflow_eq {t : Timer} (running : t.running = true) (h : t.mode ≠ .off) : t.underflow =
    ({ t with
        held := 0
        running := decide (t.mode = HoldoffMode.repeating)
        counter := if t.mode = HoldoffMode.repeating then t.reload else t.counter
        interval := if t.mode = HoldoffMode.repeating then 0 else t.interval },
      decide (0 < t.held)) := by
  cases mode : t.mode with
  | off => exact absurd mode h
  | oneshot => simp [Timer.underflow, mode]
  | repeating => simp [Timer.underflow, mode, Timer.load, running]

section

variable (s : State) {n : LaneNo} {event : Timer → Timer × Bool} {t : Timer}

/-- An event of time that leaves the timer as it is changes nothing. -/
theorem State.timerEvent_idle (h : event s.lanes[n].timer = (s.lanes[n].timer, false)) : s.timerEvent n event = s := by
  rw [State.timerEvent, h]
  exact s.setLane_self n

theorem State.timerEvent_quiet (h : event s.lanes[n].timer = (t, false)) :
    s.timerEvent n event = s.setLane n { s.lanes[n] with timer := t } := by
  rw [State.timerEvent, h]
  rfl

theorem State.timerEvent_underflow (running : s.lanes[n].timer.running = true) (mode : s.lanes[n].timer.mode ≠ .off)
    (h : event s.lanes[n].timer = s.lanes[n].timer.underflow) : s.timerEvent n event =
      { s.setLane n { s.lanes[n] with timer := s.lanes[n].timer.underflow.1 } with
        notice := if 0 < s.lanes[n].timer.held then s.notice.raise n.succ else s.notice } := by
  rw [State.timerEvent, h, State.raiseLaneIf_eq, Timer.underflow_eq running mode]
  simp only [decide_eq_true_eq]
  rfl

end

/-- Settles O21: the branches of a tick and of the underflow event. -/
theorem ticksAndUnderflows : Obligations.TicksAndUnderflows := by
  intro s n l underflow
  refine ⟨fun stopped => ⟨congrArg _ (s.timerEvent_idle (Timer.tick_of_stopped stopped)),
      congrArg _ (s.timerEvent_idle (Timer.underflowEvent_of_stopped stopped))⟩, fun running above => ?_,
    fun running zero mode c named => ?_⟩
  · obtain ⟨stopped, -⟩ | ⟨-, -, tick⟩ | ⟨-, zero, -⟩ := l.timer.tick_cases
    · cases stopped.symm.trans running
    · obtain ⟨-, zero, -⟩ | ⟨-, idle⟩ := l.timer.underflowEvent_cases
      · exact absurd zero above.ne'
      · exact ⟨congrArg _ (s.timerEvent_quiet tick), congrArg _ (s.timerEvent_idle idle)⟩
    · exact absurd zero above.ne'
  · have whole {event : Timer → Timer × Bool} (h : event l.timer = l.timer.underflow) : s.timerEvent n event =
        { s.setLane n { l with timer := underflow l.timer.mode } with
          notice := if 0 < l.timer.held then s.notice.raise n.succ else s.notice } := by
      rw [s.timerEvent_underflow running mode h, Timer.underflow_eq running mode]
    obtain rfl | rfl := named
    · refine congrArg _ (whole ?_)
      obtain ⟨stopped, -⟩ | ⟨-, above, -⟩ | ⟨-, -, tick⟩ := l.timer.tick_cases
      · cases stopped.symm.trans running
      · exact absurd zero above.ne'
      · exact tick
    · refine congrArg _ (whole ?_)
      obtain ⟨-, -, event⟩ | ⟨not, -⟩ := l.timer.underflowEvent_cases
      · exact event
      · exact absurd ⟨running, zero⟩ not

/-! ### Ticks in a row -/

theorem run_succ {s t : State} (h : step s = .next t) (k : Nat) :
    Host.Core.run core (k + 1) s = Host.Core.run core k t := by
  have stepped : core.step s = .next t := h
  simp only [Host.Core.run, stepped]

theorem State.setLane_setLane (s : State) (n : LaneNo) (l l' : Lane) : (s.setLane n l).setLane n l' = s.setLane n l' := by
  simp [State.setLane]

/-- A lane after `k` ticks of its running timer that do not pass 0 (R151). -/
def Lane.countDown (k : Nat) (l : Lane) : Lane :=
  { l with timer := { l.timer with counter := l.timer.counter - k, interval := 0 } }

/-- A tick above 0 at the front of the queue (R151). -/
theorem step_tick {s : State} {n : LaneNo} {later : List Instr} (queue : s.pending = .holdoffTick n :: later)
    (running : s.lanes[n].timer.running = true) (above : 0 < s.lanes[n].timer.counter) :
    step s = .next ({ s with pending := later }.setLane n (s.lanes[n].countDown 1)) := by
  have stepped : step s = exec (.holdoffTick n) { s with pending := later } := by simp only [step, queue]
  rw [stepped]
  exact ((ticksAndUnderflows { s with pending := later } n).2.1 running above).1

theorem Lane.countDown_countDown (l : Lane) (j k : Nat) : (l.countDown j).countDown k = l.countDown (j + k) := by
  simp [Lane.countDown, Nat.sub_sub]

/-- Ticks in a row, by induction on their number: each finds the counter above 0. -/
theorem run_ticks {n : LaneNo} {rest : List Instr} (k : Nat) {s : State}
    (queue : s.pending = List.replicate (k + 1) (Instr.holdoffTick n) ++ rest) (running : s.lanes[n].timer.running = true)
    (within : k + 1 ≤ s.lanes[n].timer.counter) :
    Host.Core.run core (k + 1) s = .next ({ s with pending := rest }.setLane n (s.lanes[n].countDown (k + 1))) := by
  induction k generalizing s with
  | zero => rw [run_succ (step_tick queue running within)]; rfl
  | succ k ih =>
    have stepped := step_tick queue running (by omega)
    rw [run_succ stepped]
    have lane := State.setLane_lane_self { s with pending := List.replicate (k + 1) (Instr.holdoffTick n) ++ rest } n
      (s.lanes[n].countDown 1)
    have later := ih (s := { s with pending := List.replicate (k + 1) (Instr.holdoffTick n) ++ rest }.setLane n
      (s.lanes[n].countDown 1)) rfl (by rw [lane]; exact running) (by rw [lane]; exact Nat.le_sub_of_add_le within)
    rw [lane, Lane.countDown_countDown, Nat.add_comm 1] at later
    exact later.trans (congrArg _ (State.setLane_setLane { s with pending := rest } n _ _))

/-- Settles O22. -/
theorem ticksCountTheReloadDown : Obligations.TicksCountTheReloadDown := by
  intro s n k rest queue running some' within
  obtain ⟨k, rfl⟩ := Nat.exists_eq_add_of_le' some'
  exact run_ticks k queue running within

/-! ### Fields by their bytes -/

/-- A field is its first byte and the field of the rest, 256 times as high (R181). -/
theorem field_succ (record : List Byte) (off size : Nat) :
    field record off (size + 1) = (record.getD off 0).toNat + 256 * field record (off + 1) size := by
  unfold field
  by_cases inside : off < record.length
  · rw [List.drop_eq_getElem_cons inside, List.take_succ_cons, leValue, List.getD_eq_getElem _ _ inside]
  · have outside : record.length ≤ off := Nat.le_of_not_lt inside
    rw [List.drop_eq_nil_of_le outside, List.drop_eq_nil_of_le (outside.trans (Nat.le_succ _)), List.take_nil,
      List.take_nil, List.getD_eq_default _ _ outside]
    rfl

theorem field_zero (record : List Byte) (off : Nat) : field record off 0 = 0 := rfl

theorem field_one (record : List Byte) (off : Nat) : field record off 1 = (record.getD off 0).toNat := by
  rw [field_succ, field_zero, Nat.mul_zero, Nat.add_zero]

theorem field_two (record : List Byte) (off : Nat) :
    field record off 2 = (record.getD off 0).toNat + 256 * (record.getD (off + 1) 0).toNat := by
  rw [field_succ, field_one]

/-! ### The host half -/

theorem hostHoldoffMode_eq (half : List Byte) : hostHoldoffMode half =
    if (half.getD 8 0).toNat = 1 then .oneshot else if (half.getD 8 0).toNat = 2 then .repeating else .off := by
  rw [hostHoldoffMode, field_one]
  split <;> simp_all

theorem hostThreshold_eq (half : List Byte) :
    hostThreshold half = if (half.getD 9 0).toNat = 0 then 1 else (half.getD 9 0).toNat := by
  rw [hostThreshold, field_one]
  split <;> omega

theorem hostPrescale_eq (half : List Byte) :
    hostPrescale half = if (half.getD 10 0).toNat % 16 = 15 then 14 else (half.getD 10 0).toNat % 16 := by
  rw [hostPrescale, field_one]
  split <;> omega

/-- What a lane has in flight of the present epoch (R15). -/
theorem State.stillInFlight_lane (s : State) {n : LaneNo} {r : LaneRequest} (h : s.lanes[n].request = some r) :
    s.stillInFlight s.epoch s.lanes[n].request = some r := by
  rw [State.stillInFlight_epoch, h]

/-- Settles O23: the timer's settings by the bytes of the host half. -/
theorem hostHalfConfiguresTheTimer : Obligations.HostHalfConfiguresTheTimer := by
  intro s n a half request length byte mode reload l
  have ended : exec (.hostHalfReadDone n ⟨s.epoch, .ok half⟩) s = .next (s.setLane n
      ({ s.lanes[n] with timer := s.lanes[n].timer.configure half, condition := .running }.writeRecord s.area n .start)) := by
    simp only [exec, execHostHalfReadDone, s.stillInFlight_lane request]
  have timer : s.lanes[n].timer.configure half = l.timer := by
    simp only [Timer.configure, hostHoldoffMode_eq, hostThreshold_eq, hostPrescale_eq, hostReload, field_two]
    rfl
  rw [ended, timer]
  rfl

end Sys2Proof.Machine
end

section
/-! The ends of a lane's requests to host memory: the check, the report, the faults and the halt. -/

namespace Sys2Proof.Machine

section

variable (s : State) {n : LaneNo} {a : Addr} {bytes : List Byte}

/-! ### Ends in success -/

/-- The end of the start write or of a skip write (R23, R25). -/
theorem exec_boundary {c : Instr} (h : s.lanes[n].request = some (.recordWrite .start a bytes) ∧
      c = .startRecordWriteDone n ⟨s.epoch, .ok⟩ ∨
    s.lanes[n].request = some (.recordWrite .skip a bytes) ∧ c = .skipWriteDone n ⟨s.epoch, .ok⟩) :
    exec c s = .next (s.setLane n (s.lanes[n].checkBoundary s.area n)) := by
  obtain ⟨request, rfl⟩ | ⟨request, rfl⟩ := h
  · simp only [exec, execStartRecordWriteDone, s.stillInFlight_lane request]
  · simp only [exec, execSkipWriteDone, s.stillInFlight_lane request]

/-- The end of a link read or a state word read that finds nothing (R8, R9). -/
theorem exec_findNothing {c : Instr}
    (h : s.lanes[n].request = some (.linkRead a) ∧ c = .linkReadDone n ⟨s.epoch, .ok 0⟩ ∨
      s.lanes[n].request = some (.stateWordRead a) ∧ c = .stateWordReadDone n ⟨s.epoch, .ok 0⟩) :
    exec c s = .next (s.setLane n (s.lanes[n].findNothing s.area n)) := by
  obtain ⟨request, rfl⟩ | ⟨request, rfl⟩ := h
  · simp only [exec, execLinkReadDone, s.stillInFlight_lane request, if_true]
  · simp only [exec, execStateWordReadDone, s.stillInFlight_lane request, wordEmpty, if_true]

/-- A WITHDRAWN docket found by its state word or by the claim (R9, R10). -/
theorem exec_skip {c : Instr} {expected replacement : Word}
    (h : s.lanes[n].request = some (.stateWordRead a) ∧ c = .stateWordReadDone n ⟨s.epoch, .ok 5⟩ ∨
      s.lanes[n].request = some (.claim a expected replacement) ∧ c = .claimDone n ⟨s.epoch, .ok 5⟩) :
    exec c s = .next (s.setLane n (s.lanes[n].skip s.area n)) := by
  obtain ⟨request, rfl⟩ | ⟨request, rfl⟩ := h
  · simp only [exec, execStateWordReadDone, s.stillInFlight_lane request]
    rfl
  · simp only [exec, execClaimDone, s.stillInFlight_lane request]
    rfl

/-- The end of a stop or fault write (R27, R34). -/
theorem exec_restWriteEnded {c : Instr} (h : s.lanes[n].request = some (.recordWrite .stop a bytes) ∧
      c = .stopRecordWriteDone n ⟨s.epoch, .ok⟩ ∨
    s.lanes[n].request = some (.recordWrite .fault a bytes) ∧ c = .faultRecordWriteDone n ⟨s.epoch, .ok⟩) :
    exec c s = .next (s.restWriteEnded n s.lanes[n]) := by
  obtain ⟨request, rfl⟩ | ⟨request, rfl⟩ := h
  · simp only [exec, execStopRecordWriteDone, s.stillInFlight_lane request]
  · simp only [exec, execFaultRecordWriteDone, s.stillInFlight_lane request]

/-- The end of step 1 of a report, in success or in error (R16, R17). -/
theorem exec_resultSectionWriteDone {r : Report} (result : WriteEnd)
    (request : s.lanes[n].request = some (.resultWrite a bytes)) (report : s.lanes[n].report = some r) :
    exec (.resultSectionWriteDone n ⟨s.epoch, result⟩) s = .next (s.setLane n (match result with
      | .ok => { s.lanes[n] with request := some (.stateWordWrite s.lanes[n].docket r.stateWord) }
      | .error => s.lanes[n].fault s.area n .resultWrite s.lanes[n].docket)) := by
  dsimp only [exec, execResultSectionWriteDone]
  rw [s.stillInFlight_lane request]
  split
  · next prepared =>
    cases prepared.symm.trans report
    cases result <;> rfl
  · next no => exact (no _ _ _ rfl report).elim

/-- The end of step 2 of a report, in success or in error (R16, R17, R31). -/
theorem exec_stateWordWriteDone {r : Report} {v : Word} (result : WriteEnd)
    (request : s.lanes[n].request = some (.stateWordWrite a v)) (report : s.lanes[n].report = some r) :
    exec (.stateWordWriteDone n ⟨s.epoch, result⟩) s = .next (s.setLane n (match result with
      | .ok => s.lanes[n].finishDocket s.area n r.change
      | .error => s.lanes[n].fault s.area n .resultWrite s.lanes[n].docket)) := by
  dsimp only [exec, execStateWordWriteDone]
  rw [s.stillInFlight_lane request]
  split
  · next prepared =>
    cases prepared.symm.trans report
    cases result <;> rfl
  · next no => exact (no _ _ _ rfl report).elim

end

/-- Settles O24: both ends are check boundaries, which stop pending decides. -/
theorem startAndSkipWritesReachTheCheckBoundary : Obligations.StartAndSkipWritesReachTheCheckBoundary := by
  intro s n a bytes c l h
  rw [exec_boundary s h]
  exact ⟨fun clear => congrArg _ (congrArg _ (Lane.checkBoundary_clear s.area n clear)),
    fun set => congrArg _ (congrArg _ (Lane.checkBoundary_stop s.area n set))⟩

/-- Settles O25: the post latch and stop pending decide what a check that finds nothing does. -/
theorem findingNothingWaitsRereadsOrStops : Obligations.FindingNothingWaitsRereadsOrStops := by
  intro s n a c l h
  rw [exec_findNothing s h]
  refine ⟨fun latch stop => congrArg _ (congrArg _ ?_), fun latch stop => congrArg _ (congrArg _ ?_),
    fun stop => congrArg _ (congrArg _ ?_)⟩
  · rw [Lane.findNothing, latch, stop]
    rfl
  · rw [Lane.findNothing, latch]
    exact Lane.checkBoundary_clear s.area n stop
  · obtain ⟨-, e⟩ | ⟨-, -, e⟩ | ⟨-, clear, -⟩ := l.findNothing_cases s.area n
    · exact e.trans (Lane.checkBoundary_stop s.area n stop)
    · exact e
    · cases clear.symm.trans stop

/-- Settles O26: each request of the check leads to the next, and a WITHDRAWN docket to its skip. -/
theorem postedDocketIsClaimedAndWithdrawnSkipped : Obligations.PostedDocketIsClaimedAndWithdrawnSkipped := by
  refine ⟨fun s n a => ⟨fun request link link₀ aligned => ?_, fun request => ?_, fun request bytes => ?_⟩,
    fun s n a expected replacement c => ?_⟩
  · simp only [exec, execLinkReadDone, s.stillInFlight_lane request, if_neg link₀, aligned, ne_eq, not_true, if_false]
  · simp only [exec, execStateWordReadDone, s.stillInFlight_lane request]
    rfl
  · simp only [exec, execDocketReadDone, s.stillInFlight_lane request]
    rfl
  · intro l h
    exact exec_skip s h

/-- Settles O29: each step of the report leads to the next. -/
theorem reportStepsOneAndTwo : Obligations.ReportStepsOneAndTwo := by
  intro s n r a l report
  exact ⟨fun bytes request => exec_resultSectionWriteDone s .ok request report,
    fun v request => exec_stateWordWriteDone s .ok request report⟩

/-- The completion event by the table of R152. -/
theorem Timer.completion_eq (t : Timer) :
    let released := t.mode = .off ∨ t.threshold ≤ t.held + 1
    t.completion =
      (if released then { t with held := 0, running := if t.mode = .oneshot then false else t.running }
      else if t.mode = .oneshot ∧ t.running = false then
        { t with held := t.held + 1, running := true, counter := t.reload, interval := 0 }
      else { t with held := t.held + 1 }, decide released) := by
  cases mode : t.mode <;> by_cases full : t.threshold ≤ t.held + 1 <;> cases running : t.running <;>
    simp [Timer.completion, Timer.load, mode, full, running]

/-- Settles O31: the completion event, and the check boundary of the lane it leaves. -/
theorem reportEndsWithACompletionEvent : Obligations.ReportEndsWithACompletionEvent := by
  intro s n a bytes l request released timer notice l'
  have ended : exec (.reportRecordWriteDone n ⟨s.epoch, .ok⟩) s = .next
      { s.setLane n ({ l with timer := timer, copy := none, report := none }.checkBoundary s.area n) with
        notice := notice } := by
    simp only [exec, execReportRecordWriteDone, s.stillInFlight_lane request, State.raiseLaneIf_eq, Timer.completion_eq,
      decide_eq_true_eq]
    rfl
  rw [ended]
  refine ⟨fun clear => ?_, fun set => ?_⟩
  · rw [Lane.checkBoundary_clear s.area n (l := { l with timer := timer, copy := none, report := none }) clear]
    rfl
  · rw [Lane.checkBoundary_stop s.area n (l := { l with timer := timer, copy := none, report := none }) set]
    rfl

/-- A START that waited reads the host half, and else the lane has nothing in flight (R27, R34). -/
theorem Lane.restEnded_eq (l : Lane) (area : Addr) (n : LaneNo) :
    (if l.startDue then l.readHostHalf area n else { l with request := none }) =
      { l with
        startDue := false
        request := if l.startDue then some (.hostHalfRead (recordAddress area n)) else none } := by
  cases l.startDue <;> rfl

/-- Settles O32: both ends raise the source and go on with a START that waited. -/
theorem stopAndFaultWritesRaiseTheSource : Obligations.StopAndFaultWritesRaiseTheSource := by
  intro s n a bytes c l h
  rw [exec_restWriteEnded s h, State.restWriteEnded, Lane.restEnded_eq, State.raise]
  rfl

/-! ### Faults and the halt -/

/-- Settles O33: each cause by the end it comes with. -/
theorem laneFaultsByCause : Obligations.LaneFaultsByCause := by
  intro s n a v e r link bytes c code docket l h
  have faults : exec c s = .next (s.setLane n (s.lanes[n].fault s.area n code docket)) := by
    obtain ⟨request, rfl, rfl, rfl⟩ | ⟨request, rfl, rfl, rfl⟩ | ⟨request, misaligned, rfl, rfl, rfl⟩ |
      ⟨request, rfl, rfl, rfl⟩ | ⟨request, other, rfl, rfl, rfl⟩ | ⟨request, rfl, rfl, rfl⟩ | ⟨request, rfl, rfl, rfl⟩ |
      ⟨request, other, rfl, rfl, rfl⟩ | ⟨request, report, rfl, rfl, rfl⟩ | ⟨request, report, rfl, rfl, rfl⟩ := h
    · simp only [exec, execHostHalfReadDone, s.stillInFlight_lane request]
      rfl
    · simp only [exec, execLinkReadDone, s.stillInFlight_lane request]
      rfl
    · have some' : docket ≠ 0 := fun zero => misaligned (by rw [zero]; rfl)
      simp only [exec, execLinkReadDone, s.stillInFlight_lane request, if_neg some', if_pos misaligned]
    · simp only [exec, execStateWordReadDone, s.stillInFlight_lane request]
      rfl
    · simp only [List.mem_cons, List.not_mem_nil, or_false, not_or] at other
      obtain ⟨empty, posted, withdrawn⟩ := other
      simp only [exec, execStateWordReadDone, s.stillInFlight_lane request]
      exact (if_neg empty).trans ((if_neg posted).trans (if_neg withdrawn))
    · simp only [exec, execDocketReadDone, s.stillInFlight_lane request]
      rfl
    · simp only [exec, execClaimDone, s.stillInFlight_lane request]
      rfl
    · simp only [List.mem_cons, List.not_mem_nil, or_false, not_or] at other
      obtain ⟨posted, withdrawn⟩ := other
      simp only [exec, execClaimDone, s.stillInFlight_lane request]
      exact (if_neg posted).trans (if_neg withdrawn)
    · obtain ⟨r, prepared⟩ := Option.ne_none_iff_exists'.1 report
      exact exec_resultSectionWriteDone s .error request prepared
    · obtain ⟨r, prepared⟩ := Option.ne_none_iff_exists'.1 report
      exact exec_stateWordWriteDone s .error request prepared
  exact faults

/-- Settles O34: on each occasion the halt, which freezes every lane. -/
theorem failedRecordWriteHalts : Obligations.FailedRecordWriteHalts := by
  intro s n a bytes c h
  have halts : exec c s = .next s.halt := by
    obtain ⟨request, rfl⟩ | ⟨request, rfl⟩ | ⟨request, rfl⟩ | ⟨request, rfl⟩ | ⟨request, rfl⟩ := h
    · simp only [exec, execStartRecordWriteDone, s.stillInFlight_lane request]
    · simp only [exec, execSkipWriteDone, s.stillInFlight_lane request]
    · simp only [exec, execReportRecordWriteDone, s.stillInFlight_lane request]
    · simp only [exec, execStopRecordWriteDone, s.stillInFlight_lane request]
    · simp only [exec, execFaultRecordWriteDone, s.stillInFlight_lane request]
  refine ⟨s.halt.lanes, halts, fun m => ?_⟩
  rw [show s.halt.lanes[m] = s.lanes[m].freeze by simp [State.halt]]
  rfl

end Sys2Proof.Machine
end

section
/-! Results of abandoned requests: the end of a request that its issuer does not have in flight changes nothing. -/

namespace Sys2Proof.Machine

section

variable {s : State} {n : LaneNo} {u : UnitNo} {e : Nat}

theorem exec_sourceReadDone_idle {row off : Nat} {x : Ended (ReadEnd (List Byte))}
    (h : s.units[u].readEnded row off x.result s.draws = none) : exec (.sourceReadDone u row off x) s = .next s := by
  have gone : s.stillInFlight x.epoch (none : Option ReductionUnit) = none := by
    obtain ⟨-, e⟩ | ⟨-, e⟩ := s.stillInFlight_cases x.epoch (none : Option ReductionUnit) <;> exact e
  simp only [exec, execSourceReadDone, h, gone]

theorem exec_outputWriteDone_idle {index : Nat} {x : Ended WriteEnd}
    (h : s.units[u].writeEnded index x.result s.draws = none) : exec (.outputWriteDone u index x) s = .next s := by
  have gone : s.stillInFlight x.epoch (none : Option ReductionUnit) = none := by
    obtain ⟨-, e⟩ | ⟨-, e⟩ := s.stillInFlight_cases x.epoch (none : Option ReductionUnit) <;> exact e
  simp only [exec, execOutputWriteDone, h, gone]

theorem ReductionUnit.readEnded_none {u : ReductionUnit} {row off : Nat} {result : ReadEnd (List Byte)} {draw : Nat}
    (h : ∀ it d sd, u.attempt = some (it, d, sd) → sd.accepts row off result = false) :
    u.readEnded row off result draw = none := by
  obtain e | ⟨it, d, sd, attempt, accepts, -⟩ := u.readEnded_cases row off result draw
  · exact e
  · cases (h it d sd attempt).symm.trans accepts

theorem ReductionUnit.writeEnded_none {u : ReductionUnit} {index : Nat} {result : WriteEnd} {draw : Nat}
    (h : ∀ it d sd, u.attempt = some (it, d, sd) → sd.acceptsWrite index = false) :
    u.writeEnded index result draw = none := by
  obtain e | ⟨it, d, sd, attempt, accepts, -⟩ := u.writeEnded_cases index result draw
  · exact e
  · cases (h it d sd attempt).symm.trans accepts

end

section

variable {sd : SideContext} {row off : Nat}

theorem SideContext.findRead_none (h : ∀ r ∈ sd.reads, r.row = row → r.off = off → r.bytes ≠ none) :
    sd.findRead row off = none := by
  cases found : sd.findRead row off with
  | none => rfl
  | some r =>
    obtain ⟨mem, rrow, roff, waits⟩ := SideContext.findRead_mem found
    exact absurd waits (h r mem rrow roff)

theorem SideContext.accepts_none (h : sd.findRead row off = none) (result : ReadEnd (List Byte)) :
    sd.accepts row off result = false := by
  simp only [SideContext.accepts, h]

theorem SideContext.accepts_other_length {bytes : List Byte}
    (h : ∀ r ∈ sd.reads, r.row = row → r.off = off → r.bytes = none → bytes.length ≠ r.len) :
    sd.accepts row off (.ok bytes) = false := by
  cases found : sd.findRead row off with
  | none => exact SideContext.accepts_none found _
  | some r =>
    obtain ⟨mem, rrow, roff, waits⟩ := SideContext.findRead_mem found
    simp only [SideContext.accepts, found]
    exact beq_false_of_ne (h r mem rrow roff waits)

theorem SideContext.acceptsWrite_none {index : Nat} (h : ∀ w ∈ sd.writes, w.index ≠ index) :
    sd.acceptsWrite index = false :=
  List.any_eq_false.2 fun w mem => by simpa using h w mem

end

/-- Settles O35: a result of another epoch finds nothing in flight, and a result of this one finds another request or
none. -/
theorem abandonedResultsAreDiscarded : Obligations.AbandonedResultsAreDiscarded := by
  intro s n u l
  refine ⟨fun e other => ?_, ?_, ?_, ?_, ?_, ?_, ?_, ?_, ?_, ?_, ?_, ?_, ?_, ?_, ?_, ?_, ?_, ?_, fun none => ?_,
    fun it d sd attempt => ?_⟩
  · have gone {α : Type} (r : Option α) : s.stillInFlight e r = none := s.stillInFlight_other other r
    refine ⟨?_, ?_, ?_, ?_, ?_, ?_, ?_, ?_, ?_, ?_, ?_, ?_, ?_, ?_⟩
    all_goals
      intros
      simp only [exec, execHostHalfReadDone, execStartRecordWriteDone, execLinkReadDone, execStateWordReadDone,
        execDocketReadDone, execClaimDone, execSkipWriteDone, execResultSectionWriteDone, execStateWordWriteDone,
        execReportRecordWriteDone, execStopRecordWriteDone, execFaultRecordWriteDone, execSourceReadDone,
        execOutputWriteDone, gone]
  iterate 12
    intro none x
    dsimp only [exec, execHostHalfReadDone, execStartRecordWriteDone, execLinkReadDone, execStateWordReadDone,
      execDocketReadDone, execClaimDone, execSkipWriteDone, execResultSectionWriteDone, execStateWordWriteDone,
      execReportRecordWriteDone, execStopRecordWriteDone, execFaultRecordWriteDone]
    split
    · exact absurd (State.stillInFlight_eq_some ‹s.stillInFlight _ s.lanes[n].request = some _›).2 (by apply none)
    · rfl
  iterate 5
    intro none
    dsimp only [exec, execStageNow, execStageAtOpen, execStageCancel, execOpenBundle, execSnapshot]
    split
    · next found => exact absurd found (by apply none)
    · rfl
  · have idle it d sd (attempt : s.units[u].attempt = some (it, d, sd)) : False := nomatch none.symm.trans attempt
    exact ⟨fun row off x => exec_sourceReadDone_idle (ReductionUnit.readEnded_none fun it d sd h => (idle it d sd h).elim),
      fun index x => exec_outputWriteDone_idle (ReductionUnit.writeEnded_none fun it d sd h => (idle it d sd h).elim)⟩
  · have only {it' d' sd'} (h : s.units[u].attempt = some (it', d', sd')) : sd' = sd := by
      cases attempt.symm.trans h
      rfl
    refine ⟨fun row off noRead x => exec_sourceReadDone_idle (ReductionUnit.readEnded_none fun it' d' sd' h => ?_),
      fun row off bytes e length => exec_sourceReadDone_idle (ReductionUnit.readEnded_none fun it' d' sd' h => ?_),
      fun index noWrite x => exec_outputWriteDone_idle (ReductionUnit.writeEnded_none fun it' d' sd' h => ?_)⟩ <;>
      rw [only h]
    · exact SideContext.accepts_none (SideContext.findRead_none noRead) _
    · exact SideContext.accepts_other_length length
    · exact SideContext.acceptsWrite_none noWrite

end Sys2Proof.Machine
end

section
/-! A claimed docket that is not an ITEM, and the changes to a bundle. -/

namespace Sys2Proof.Machine

/-! ### Docket fields by their bytes -/

section

variable {copy : List Byte}

theorem docketProfile_eq (copy : List Byte) : docketProfile copy = (copy.getD 0x18 0).toNat := field_one copy 0x18

theorem stageTriggerLane_eq (copy : List Byte) : stageTriggerLane copy = (copy.getD 0x1A 0).toNat := field_one copy 0x1A

theorem docketKind_item (h : (copy.getD 0x04 0).toNat = 1) : docketKind copy = .item := by
  simp only [docketKind, field_one, h]

theorem docketKind_open (h : (copy.getD 0x04 0).toNat = 2) : docketKind copy = .openBundle := by
  simp only [docketKind, field_one, h]

theorem docketKind_close (h : (copy.getD 0x04 0).toNat = 3) : docketKind copy = .close := by
  simp only [docketKind, field_one, h]

theorem docketKind_stage (h : (copy.getD 0x04 0).toNat = 4) : docketKind copy = .stage := by
  simp only [docketKind, field_one, h]

theorem docketKind_unknown (h : (copy.getD 0x04 0).toNat = 0 ∨ 4 < (copy.getD 0x04 0).toNat) :
    docketKind copy = .unknown := by
  rw [docketKind, field_one]
  split
  case h_5 => rfl
  all_goals omega

theorem stageTrigger_now (h : (copy.getD 0x19 0).toNat = 1) : stageTrigger copy = .now := by
  simp only [stageTrigger, field_one, h]

theorem stageTrigger_atOpen (h : (copy.getD 0x19 0).toNat = 2) : stageTrigger copy = .atOpen := by
  simp only [stageTrigger, field_one, h]

theorem stageTrigger_cancel (h : (copy.getD 0x19 0).toNat = 3) : stageTrigger copy = .cancel := by
  simp only [stageTrigger, field_one, h]

theorem stageTrigger_unknown (h : (copy.getD 0x19 0).toNat = 0 ∨ 3 < (copy.getD 0x19 0).toNat) :
    stageTrigger copy = .unknown := by
  rw [stageTrigger, field_one]
  split
  case h_4 => rfl
  all_goals omega

end

/-! ### The execution of a STAGE (R128) -/

section

variable {l : Lane} {p : Fin 16} {m : LaneNo}

theorem Lane.executeStage_profile_above (h : 15 < docketProfile l.copyBytes) : l.executeStage = l.refuse .profile .none :=
  dif_neg (Nat.not_lt.2 h)

theorem Lane.executeStage_unknown (hp : docketProfile l.copyBytes < 16) (trigger : stageTrigger l.copyBytes = .unknown) :
    l.executeStage = l.refuse .trigger .none := by
  rw [Lane.executeStage, dif_pos hp]
  simp only [trigger]

theorem Lane.executeStage_lane_above (hp : docketProfile l.copyBytes < 16) (trigger : stageTrigger l.copyBytes = .atOpen)
    (h : 7 < stageTriggerLane l.copyBytes) : l.executeStage = l.refuse .trigger .none := by
  rw [Lane.executeStage, dif_pos hp]
  simp only [trigger]
  exact dif_neg (Nat.not_lt.2 h)

theorem Lane.executeStage_now (hp : p.val = docketProfile l.copyBytes) (trigger : stageTrigger l.copyBytes = .now) :
    l.executeStage = l.askStore (.now p (stageUpdate l.copyBytes)) := by
  have named : (⟨docketProfile l.copyBytes, hp ▸ p.isLt⟩ : Fin 16) = p := Fin.ext hp.symm
  rw [Lane.executeStage, dif_pos (hp ▸ p.isLt)]
  simp only [trigger, named]

theorem Lane.executeStage_atOpen (hp : p.val = docketProfile l.copyBytes) (trigger : stageTrigger l.copyBytes = .atOpen)
    (hm : m.val = stageTriggerLane l.copyBytes) :
    l.executeStage = l.askStore (.atOpen { profile := p, lane := m, update := stageUpdate l.copyBytes }) := by
  have named : (⟨docketProfile l.copyBytes, hp ▸ p.isLt⟩ : Fin 16) = p := Fin.ext hp.symm
  have lane : (⟨stageTriggerLane l.copyBytes, hm ▸ m.isLt⟩ : LaneNo) = m := Fin.ext hm.symm
  rw [Lane.executeStage, dif_pos (hp ▸ p.isLt)]
  simp only [trigger, named]
  rw [dif_pos (hm ▸ m.isLt), lane]

theorem Lane.executeStage_cancel (hp : p.val = docketProfile l.copyBytes) (trigger : stageTrigger l.copyBytes = .cancel) :
    l.executeStage = l.askStore (.cancel p) := by
  have named : (⟨docketProfile l.copyBytes, hp ▸ p.isLt⟩ : Fin 16) = p := Fin.ext hp.symm
  rw [Lane.executeStage, dif_pos (hp ▸ p.isLt)]
  simp only [trigger, named]

end

/-! ### The claim -/

/-- A docket claimed is acted on by the kind of its copy (R10, R11). -/
theorem exec_claimed (s : State) {n : LaneNo} {a : Addr} {expected replacement : Word}
    (request : s.lanes[n].request = some (.claim a expected replacement)) :
    exec (.claimDone n ⟨s.epoch, .ok 1⟩) s = .next (s.actOnKind n { s.lanes[n] with holds := true }) := by
  simp only [exec, execClaimDone, s.stillInFlight_lane request]
  rfl

/-- Settles O27: the kind routes the docket, and its own checks decide in order. -/
theorem controlDocketsExecuteFromTheCopy : Obligations.ControlDocketsExecuteFromTheCopy := by
  intro s n a expected replacement copy request copied l byte claimed reports refuses asks
  let held : Lane := { s.lanes[n] with holds := true }
  have bytes : held.copyBytes = copy := by
    show s.lanes[n].copy.getD [] = copy
    rw [copied]
    rfl
  have acts {l' : Lane} (h : s.actOnKind n held = s.setLane n l') : claimed = .next (s.setLane n l') := by
    rw [← h]
    exact exec_claimed s request
  have report (r : Report) : Host.Outcome.next (s.setLane n (held.beginReport r)) = reports r := by
    rw [Lane.beginReport, bytes]
    rfl
  have refuse {code : RefusalCode} (h : s.actOnKind n held = s.setLane n (held.refuse code .none)) : refuses code :=
    (acts h).trans (report _)
  have isOpenKind (kind : byte 4 = 2) : s.actOnKind n held = s.setLane n held.executeOpen := by
    simp only [State.actOnKind, bytes, docketKind_open kind]
  have isCloseKind (kind : byte 4 = 3) : s.actOnKind n held = s.setLane n held.executeClose := by
    simp only [State.actOnKind, bytes, docketKind_close kind]
  have isStageKind (kind : byte 4 = 4) {l' : Lane} (h : held.executeStage = l') : s.actOnKind n held = s.setLane n l' := by
    simp only [State.actOnKind, bytes, docketKind_stage kind, h]
  have profile : docketProfile held.copyBytes = byte 0x18 := by rw [bytes]; exact docketProfile_eq copy
  have lane : stageTriggerLane held.copyBytes = byte 0x1A := by rw [bytes]; exact stageTriggerLane_eq copy
  have trigger {t : StageTrigger} (h : stageTrigger copy = t) : stageTrigger held.copyBytes = t := by rwa [bytes]
  refine ⟨fun kind => refuse ?_, fun kind isOpen => refuse ?_, fun kind closed => acts ?_, fun kind closed => refuse ?_,
    fun kind isOpen other => refuse ?_, fun kind isOpen same => (acts ?_).trans (report _),
    fun kind above => refuse (isStageKind kind ?_), fun kind p other => refuse (isStageKind kind ?_),
    fun kind p atOpen above => refuse (isStageKind kind ?_),
    fun p kind same => ⟨fun now => acts (isStageKind kind ?_), fun m atOpen named => acts (isStageKind kind ?_),
      fun cancel => acts (isStageKind kind ?_)⟩⟩
  · simp only [State.actOnKind, bytes, docketKind_unknown kind]
  · rw [isOpenKind kind, Lane.executeOpen, if_pos isOpen]
  · rw [isOpenKind kind, Lane.executeOpen, if_neg (Bool.eq_false_iff.1 closed), bytes]
    rfl
  · rw [isCloseKind kind, Lane.executeClose, if_neg (Bool.eq_false_iff.1 closed)]
  · rw [isCloseKind kind, Lane.executeClose, if_pos isOpen, bytes]
    exact congrArg (s.setLane n) (if_neg other)
  · rw [isCloseKind kind, Lane.executeClose, if_pos isOpen, bytes]
    exact congrArg (s.setLane n) (if_pos same)
  · exact Lane.executeStage_profile_above (by omega)
  · exact Lane.executeStage_unknown (by omega) (trigger (stageTrigger_unknown other))
  · exact Lane.executeStage_lane_above (by omega) (trigger (stageTrigger_atOpen atOpen)) (by omega)
  · rw [Lane.executeStage_now (same.trans profile.symm) (trigger (stageTrigger_now now)), bytes]
    rfl
  · rw [Lane.executeStage_atOpen (same.trans profile.symm) (trigger (stageTrigger_atOpen atOpen))
      (named.trans lane.symm), bytes]
    rfl
  · exact Lane.executeStage_cancel (same.trans profile.symm) (trigger (stageTrigger_cancel cancel))

/-! ### The bundle (R140, R143, R145) -/

/-- A counter that one event in some is counted in, modulo 2^32. -/
theorem toNat_counted (b : Word) (p : Prop) [Decidable p] :
    (if p then b + 1 else b).toNat = (b.toNat + if p then 1 else 0) % 2 ^ 32 := by
  split
  · rfl
  · exact (Nat.mod_eq_of_lt b.isLt).symm

theorem Bundle.addItem_counts (b : Bundle) (o : ItemOutcome) (k m : Nat) :
    (b.addItem o k m).itemsDone.toNat = (b.itemsDone.toNat + 1) % 2 ^ 32 ∧
      (b.addItem o k m).sidesCoded.toNat = (b.sidesCoded.toNat + k) % 2 ^ 32 ∧
      (b.addItem o k m).bytes.toNat = (b.bytes.toNat + m) % 2 ^ 32 := by
  simp [Bundle.addItem]

/-- Settles O30: each change of the bundle by its own branch. -/
theorem bundleChangesAtStepThree : Obligations.BundleChangesAtStepThree := by
  intro b
  refine ⟨fun id => rfl, rfl, rfl, fun closed => ⟨?_, fun o k m => ?_⟩, fun isOpen => ⟨?_, fun o k m => ?_⟩⟩
  · exact if_neg (Bool.eq_false_iff.1 closed)
  · exact if_neg (Bool.eq_false_iff.1 closed)
  · exact if_pos isOpen
  · obtain ⟨done, sides, bytes⟩ := b.addItem_counts o k m
    exact ⟨_, if_pos isOpen, isOpen, rfl, rfl, done, sides, bytes, toNat_counted b.flagged _,
      toNat_counted b.oversize _, toNat_counted b.errors _⟩

end Sys2Proof.Machine
end

section
/-! The profile store's requests and the snapshot. -/

namespace Sys2Proof.Machine

/-! ### STAGE and OPEN -/

theorem ProfileStore.cancel_count (st : ProfileStore) (p : Fin 16) :
    st.stageList.length - (st.cancel p).stageList.length = st.stageList.countP fun e => e.profile = p := by
  have counted : st.stageList.length =
      st.stageList.countP (fun e => e.profile = p) + (st.stageList.filter fun e => e.profile ≠ p).length := by
    rw [List.length_eq_countP_add_countP (fun e : StageEntry => decide (e.profile = p)), ← List.countP_eq_length_filter]
    simp only [decide_not, decide_eq_true_eq, ne_eq]
  show st.stageList.length - (st.stageList.filter fun e => e.profile ≠ p).length = _
  omega

/-- Applications leave the stage list as it is, so that it may be put in before or after them. -/
theorem ProfileStore.foldl_applyUpdate_with (es l : List StageEntry) (st : ProfileStore) :
    es.foldl (fun acc e => acc.applyUpdate e.profile e.update) { st with stageList := l } =
      { es.foldl (fun acc e => acc.applyUpdate e.profile e.update) st with stageList := l } := by
  induction es generalizing st with
  | nil => rfl
  | cons e es ih => exact ih (st.applyUpdate e.profile e.update)

/-- An OPEN by the profiles it starts from and the two parts of the list (R133). -/
theorem ProfileStore.openLane_eq (st : ProfileStore) (n : LaneNo) : st.openLane n =
    { (st.stageList.filter fun e => e.lane = n).foldl (fun acc e => acc.applyUpdate e.profile e.update)
        { st with stageList := [] } with
      stageList := st.stageList.filter fun e => e.lane ≠ n } := by
  rw [ProfileStore.foldl_applyUpdate_with _ [] st]
  exact ProfileStore.foldl_applyUpdate_with _ _ st

/-- Settles O36: each request is taken whole and reported. -/
theorem stageRequestsAreTakenWhole : Obligations.StageRequestsAreTakenWhole := by
  intro s n l reports done
  have request {r : Option StoreRequest} (asked : l.storeRequest = r) : s.lanes[n].storeRequest = r := asked
  refine ⟨fun p u asked => ?_, fun e asked => ⟨fun room => ?_, fun full => ?_⟩, fun p asked => ?_⟩
  · have generation : (s.store.applyUpdate p u).profiles[p].generation = s.store.profiles[p].generation + 1 := by
      rw [ProfileStore.applyUpdate_self]
      rfl
    simp only [exec, execStageNow, request asked, generation]
    rfl
  · have count : (s.store.append e).stageList.length = s.store.stageList.length + 1 := List.length_append
    simp only [exec, execStageAtOpen, request asked, if_pos room, count]
    rfl
  · simp only [exec, execStageAtOpen, request asked, if_neg (Nat.not_lt.2 full)]
    rfl
  · simp only [exec, execStageCancel, request asked, ProfileStore.cancel_count]
    rfl

/-- Settles O37: by the list, entry by entry. -/
theorem openAppliesTheLanesEntriesInOrder : Obligations.OpenAppliesTheLanesEntriesInOrder := by
  refine ⟨fun s n id asked => ?_, fun n profiles e es => ⟨rfl, fun waits => ?_, fun other => ?_⟩⟩
  · have count : (s.store.waitingFor n).length = s.store.stageList.countP fun e => e.lane = n :=
      List.countP_eq_length_filter.symm
    simp only [exec, execOpenBundle, asked, count]
    rfl
  · have mine : (e :: es).filter (fun e => e.lane = n) = e :: es.filter fun e => e.lane = n :=
      List.filter_cons_of_pos (by simpa using waits)
    have theirs : (e :: es).filter (fun e => e.lane ≠ n) = es.filter fun e => e.lane ≠ n :=
      List.filter_cons_of_neg (by simpa using waits)
    rw [ProfileStore.openLane_eq, ProfileStore.openLane_eq, mine, theirs]
    rfl
  · have mine : (e :: es).filter (fun e => e.lane = n) = es.filter fun e => e.lane = n :=
      List.filter_cons_of_neg (by simpa using other)
    have theirs : (e :: es).filter (fun e => e.lane ≠ n) = e :: es.filter fun e => e.lane ≠ n :=
      List.filter_cons_of_pos (by simpa using other)
    rw [ProfileStore.openLane_eq, ProfileStore.openLane_eq, mine, theirs]

end Sys2Proof.Machine
end

section
/-! An attempt as it begins, and the snapshot that begins the front. -/

namespace Sys2Proof.Machine

section

variable {sd : SideContext} {d : SideDescriptor}

/-- An attempt with nothing in flight and a row to read issues its next read (R64). -/
theorem SideContext.pumpReads_first (fetching : sd.phase = .fetching) (none : sd.reads = []) (row : sd.readRow < d.hs)
    (draw : Nat) : ∃ r rs, (sd.pumpReads d draw).reads = r :: rs ∧ r.row = sd.readRow ∧ r.off = sd.readOff ∧
      r.address = d.byteAddress sd.readRow sd.readOff := by
  have quiet : sd.readInFlight = false := by simp [SideContext.readInFlight, none]
  obtain ⟨m, count⟩ := Nat.exists_eq_add_of_le' (le_max_left 1 (Config.readCount draw))
  obtain ⟨r, readRow, readOff, hrow, hoff, -, address, -, issued⟩ := sd.issueRead_cases d (Config.readSize draw 0)
  obtain ⟨new, readRow', readOff', -, e⟩ := SideContext.issueReads_cases d draw m 1 (sd.issueRead d (Config.readSize draw 0))
  refine ⟨r, new, ?_, hrow, hoff, address⟩
  simp only [SideContext.pumpReads, if_pos fetching, quiet, Bool.false_eq_true, if_false, count, SideContext.issueReads,
    if_pos row, e]
  rw [issued, none]
  rfl

/-- What a fresh attempt issues is in flight, the first read being that of its first byte (R52, R64). -/
theorem beginAttempt_fresh (d : SideDescriptor) (p : Profile) (offset budget step draw : Nat) :
    (beginAttempt d p offset budget step draw).Fresh d p offset budget step := by
  have first (row : 0 < d.hs) := SideContext.pumpReads_first (sd := freshAttempt d p offset budget step) rfl rfl row draw
  obtain ⟨-, new, readRow, readOff, inFlight, e⟩ | ⟨ended, -⟩ :=
    (freshAttempt d p offset budget step).pumpReads_cases d draw
  · have whole : beginAttempt d p offset budget step draw = _ := e
    refine ⟨?_, ?_, ?_, ?_, ?_, ?_, ?_, ?_, ?_, ?_, ?_, ?_, ?_, ?_, ?_, fun row => ?_⟩
    case refine_16 =>
      obtain ⟨r, rs, reads, hrow, hoff, address⟩ := first row
      refine ⟨r, rs, reads, hrow, hoff, address.trans ?_⟩
      simp [SideDescriptor.byteAddress, freshAttempt]
    case refine_15 => rw [whole]; simpa [freshAttempt] using inFlight
    all_goals rw [whole]; rfl
  · exact absurd rfl ended

end

/-- Settles O42: the snapshot, and the attempt that begins. -/
theorem snapshotEntersFront : Obligations.SnapshotEntersFront := by
  intro s u n copy p admitting v
  refine ⟨_, ?_, beginAttempt_fresh (frontDescriptor copy) v.fields 0 (min v.fields.bytesHigh (itemCapacity copy)) 0 s.draws⟩
  simp only [exec, execSnapshot, admitting]
  rfl

end Sys2Proof.Machine
end

section
/-! The dispatcher's grants and its work until no unit is IDLE or no lane asks. -/

namespace Sys2Proof.Machine

/-! ### The winner of a grant (R41) -/

/-- What a list in order of rank yields first of what satisfies a predicate: the one of least rank. -/
theorem find?_eq_some_of_ranked {α : Type} {p : α → Bool} {rank : α → Nat} {x : α} {l : List α}
    (ordered : l.Pairwise fun y z => rank y < rank z) (mem : x ∈ l) (px : p x = true)
    (least : ∀ y, p y = true → rank x ≤ rank y) : l.find? p = some x := by
  induction l with
  | nil => cases mem
  | cons y l ih =>
    obtain ⟨before, ordered⟩ := List.pairwise_cons.1 ordered
    obtain rfl | later := List.mem_cons.1 mem
    · exact List.find?_cons_of_pos px
    · have passed : ¬ p y = true := fun py => by
        have above := before x later
        have least := least y py
        omega
      rw [List.find?_cons_of_neg passed]
      exact ih ordered later

/-- The rank of a lane in a mode, 0 being the highest (R41). -/
def laneRank (mode : DispatchMode) (rotation n : LaneNo) : Nat :=
  match mode with
  | .fixed => n.val
  | .rotating => (n.val + 7 - rotation.val) % 8

theorem mem_laneRanking (mode : DispatchMode) (rotation n : LaneNo) : n ∈ laneRanking mode rotation := by
  cases mode with
  | fixed => exact List.mem_finRange n
  | rotating => exact List.mem_map.2 ⟨n - (rotation + 1), List.mem_finRange _, add_sub_cancel ..⟩

theorem pairwise_laneRanking (mode : DispatchMode) (rotation : LaneNo) :
    (laneRanking mode rotation).Pairwise fun n m => laneRank mode rotation n < laneRank mode rotation m := by
  cases mode with
  | fixed => exact List.pairwise_lt_finRange 8
  | rotating =>
    have ordered : ∀ rotation : LaneNo, (laneRanking .rotating rotation).Pairwise fun n m =>
        laneRank .rotating rotation n < laneRank .rotating rotation m := by decide
    exact ordered rotation

section

variable {s s' : State}

theorem State.winner_eq_some {n : LaneNo} (asks : s.requests[n] = true) (first : ∀ m : LaneNo, s.requests[m] = true →
    laneRank s.dispatchMode s.rotation n ≤ laneRank s.dispatchMode s.rotation m) : s.winner = some n :=
  find?_eq_some_of_ranked (p := fun n => s.requests[n]) (pairwise_laneRanking _ _) (mem_laneRanking _ _ n) asks first

theorem State.winner_eq_none_iff : s.winner = none ↔ ∀ n : LaneNo, s.requests[n] = false := by
  simp only [State.winner, List.find?_eq_none, mem_laneRanking, true_implies, Bool.not_eq_true]

theorem ReductionUnit.isIdle_iff (r : ReductionUnit) : r.isIdle = true ↔ r = .idle := by
  cases r <;> simp [ReductionUnit.isIdle]

theorem State.freeUnit_eq_some {u : UnitNo} (idle : s.units[u] = .idle) (first : u = 1 → s.units[(0 : UnitNo)] ≠ .idle) :
    s.freeUnit = some u := by
  obtain rfl | rfl := unitNo_cases u
  · exact if_pos ((ReductionUnit.isIdle_iff _).2 idle)
  · exact (if_neg (mt (ReductionUnit.isIdle_iff _).1 (first rfl))).trans (if_pos ((ReductionUnit.isIdle_iff _).2 idle))

theorem State.freeUnit_eq_none (h : s.freeUnit = none) (u : UnitNo) : s.units[u] ≠ .idle := by
  intro idle
  by_cases first : s.units[(0 : UnitNo)] = .idle
  · cases h.symm.trans (State.freeUnit_eq_some (u := 0) first nofun)
  · cases h.symm.trans (State.freeUnit_eq_some idle fun _ => first)

/-- No grant is made unless the engine is RUNNING, a unit is IDLE and a lane asks (R41, R42). -/
theorem State.grant_eq_none (h : s.engine ≠ .running ∨ (∀ u : UnitNo, s.units[u] ≠ .idle) ∨
    ∀ n : LaneNo, s.requests[n] = false) : s.grant = none := by
  cases grant : s.grant with
  | none => rfl
  | some s' =>
    obtain ⟨running, u, n, free, wins, -⟩ := s.grant_cases s' grant
    obtain other | busy | quiet := h
    · exact absurd running other
    · exact absurd (State.freeUnit_idle free) (busy u)
    · cases (quiet n).symm.trans (s.winner_requests n wins)

theorem State.idle_or_quiet_of_grant_none (running : s.engine = .running) (h : s.grant = none) :
    (∀ u : UnitNo, s.units[u] ≠ .idle) ∨ ∀ n : LaneNo, s.requests[n] = false := by
  unfold State.grant at h
  rw [if_pos running] at h
  cases free : s.freeUnit with
  | none => exact .inl (State.freeUnit_eq_none free)
  | some u =>
    cases wins : s.winner with
    | none => exact .inr (State.winner_eq_none_iff.1 wins)
    | some n => simp [free, wins] at h

theorem State.grant_eq_some {u : UnitNo} {n : LaneNo} (running : s.engine = .running) (free : s.freeUnit = some u)
    (wins : s.winner = some n) : s.grant = some
      { s with
        requests := s.requests.set n false
        rotation := if s.dispatchMode = .rotating then n else s.rotation
        units := s.units.set u (.admitting n s.lanes[n].copyBytes none)
        lanes := s.lanes.set n { s.lanes[n] with state := .active } } := by
  simp only [State.grant, if_pos running, free, wins]

end

/-- Settles O39: the free unit and the winner of the ranking are paired. -/
theorem grantFollowsTheRanking : Obligations.GrantFollowsTheRanking := by
  refine fun s => ⟨State.grant_eq_none, fun u n running idle first asks least => ?_⟩
  refine State.grant_eq_some running (State.freeUnit_eq_some idle first) (State.winner_eq_some asks fun m hm => ?_)
  have ranked := least m hm
  cases mode : s.dispatchMode <;> simpa only [laneRank, mode] using ranked

/-! ### The rounds -/

/-- The lanes that ask for a unit. -/
def State.asking (s : State) : Finset LaneNo :=
  Finset.univ.filter fun n => s.requests[n] = true

section

variable {s t : State}

theorem State.grant_none_of_asking_empty (h : s.asking = ∅) : s.grant = none := by
  refine State.grant_eq_none (.inr (.inr fun n => ?_))
  by_contra asks
  have mem : n ∈ s.asking := Finset.mem_filter.2 ⟨Finset.mem_univ n, Bool.not_eq_false _ ▸ asks⟩
  simp [h] at mem

/-- A grant takes its lane's request out of the set (R41). -/
theorem State.grant_asking (h : s.grant = some t) : t.asking.card < s.asking.card := by
  obtain ⟨-, u, n, -, wins, rfl⟩ := s.grant_cases t h
  have asks := s.winner_requests n wins
  refine Finset.card_lt_card ⟨fun m mem => ?_, fun all => ?_⟩
  · simp only [State.asking, Finset.mem_filter, Finset.mem_univ, true_and, getElem_set_fin] at mem ⊢
    split at mem
    · cases mem
    · exact mem
  · have mem := all (Finset.mem_filter.2 ⟨Finset.mem_univ n, asks⟩)
    simp only [State.asking, Finset.mem_filter, Finset.mem_univ, true_and, getElem_set_fin, if_true] at mem
    cases mem

theorem State.admitUnit_requests (s : State) (u : UnitNo) : (s.admitUnit u).requests = s.requests := by
  obtain e | ⟨n, copy, -, ⟨code, -, e⟩ | ⟨p, -, e⟩⟩ := s.admitUnit_cases u <;> rw [e] <;> rfl

/-- One round of the dispatcher's work after its first grant: a second one where it can be made, and the admissions
(R41, R47). -/
def State.round (s : State) : State := ((s.grantAll 1).admitUnit 0).admitUnit 1

theorem State.dispatchRounds_succ (h : s.grant = some t) (fuel : Nat) :
    s.dispatchRounds (fuel + 1) = t.round.dispatchRounds fuel := by
  simp only [State.dispatchRounds, h, State.round]

theorem State.dispatchRounds_none (h : s.grant = none) (fuel : Nat) : s.dispatchRounds fuel = s := by
  cases fuel <;> simp only [State.dispatchRounds, h]

theorem State.grantAll_one (h : s.grant = some t) : s.grantAll 1 = t := by simp only [State.grantAll, h]

theorem State.grantAll_none (h : s.grant = none) : s.grantAll 1 = s := by simp only [State.grantAll, h]

theorem State.round_asking (s : State) : s.round.asking.card ≤ s.asking.card := by
  have same : s.round.asking = (s.grantAll 1).asking := by
    simp only [State.asking, State.round, State.admitUnit_requests]
  rw [same]
  cases grant : s.grant with
  | none => rw [State.grantAll_none grant]
  | some t => rw [State.grantAll_one grant]; exact (State.grant_asking grant).le

/-- Rounds enough for every lane that asks: no grant is left, and one more changes nothing. -/
theorem State.dispatchRounds_enough {fuel : Nat} (h : s.asking.card ≤ fuel) :
    (s.dispatchRounds fuel).grant = none ∧ s.dispatchRounds (fuel + 1) = s.dispatchRounds fuel := by
  induction fuel generalizing s with
  | zero =>
    have none := State.grant_none_of_asking_empty (Finset.card_eq_zero.1 (Nat.le_zero.1 h))
    exact ⟨none, by rw [State.dispatchRounds_none none, State.dispatchRounds_none none]⟩
  | succ fuel ih =>
    cases grant : s.grant with
    | none =>
      rw [State.dispatchRounds_none grant, State.dispatchRounds_none grant]
      exact ⟨grant, rfl⟩
    | some t =>
      have fewer := State.grant_asking grant
      have rounds := ih (s := t.round) (by have := t.round_asking; omega)
      rw [State.dispatchRounds_succ grant, State.dispatchRounds_succ grant]
      exact rounds

theorem State.asking_card_le (s : State) : s.asking.card ≤ 8 := Finset.card_le_univ _

theorem State.dispatch_grant_none (s : State) : s.dispatch.grant = none :=
  (State.dispatchRounds_enough (s.asking_card_le.trans (by decide))).1

theorem State.dispatch_none (h : s.grant = none) : s.dispatch = s := State.dispatchRounds_none h 9

/-- The dispatcher's work goes on after a round as from the state the round leaves (R41). -/
theorem State.dispatch_round (h : s.grant = some t) : s.dispatch = t.round.dispatch := by
  have few : t.round.asking.card ≤ 8 := t.round.asking_card_le
  exact (State.dispatchRounds_succ h 8).trans (State.dispatchRounds_enough few).2.symm

end

/-! ### What the rounds do to a lane that asks -/

/-- Lane `n` has been granted a unit since `s` (R41). -/
structure State.Granted (s t : State) (n : LaneNo) : Prop where
  asked : s.requests[n] = true
  taken : t.requests[n] = false
  active : t.lanes[n].state = .active

/-- What the dispatcher's work since `s` has come to: a unit before its admission checks holds a lane granted since, and
every other lane is as it was. -/
structure State.Served (s t : State) : Prop where
  admitting : ∀ (u : UnitNo) n copy, t.units[u] = .admitting n copy none → s.Granted t n
  lanes : ∀ n : LaneNo, t.requests[n] = s.requests[n] ∧ t.lanes[n] = s.lanes[n] ∨ s.Granted t n

section

variable {s t t' : State}

theorem State.Served.grant (h : s.Served t) (grant : t.grant = some t') : s.Served t' := by
  obtain ⟨-, u, n, -, wins, rfl⟩ := t.grant_cases t' grant
  have asks := t.winner_requests n wins
  have asked : s.requests[n] = true := by
    obtain ⟨same, -⟩ | granted := h.lanes n
    · exact same ▸ asks
    · cases granted.taken.symm.trans asks
  have requests (m : LaneNo) : (t.requests.set n false)[m] = if m = n then false else t.requests[m] := getElem_set_fin ..
  have lanes (m : LaneNo) : (t.lanes.set n { t.lanes[n] with state := .active })[m] =
      if m = n then { t.lanes[n] with state := .active } else t.lanes[m] := getElem_set_fin ..
  have granted : s.Granted { t with
      requests := t.requests.set n false
      rotation := if t.dispatchMode = .rotating then n else t.rotation
      units := t.units.set u (.admitting n t.lanes[n].copyBytes none)
      lanes := t.lanes.set n { t.lanes[n] with state := .active } } n :=
    ⟨asked, by rw [requests, if_pos rfl], by rw [lanes, if_pos rfl]⟩
  have other {m : LaneNo} (apart : m ≠ n) (g : s.Granted t m) : s.Granted { t with
      requests := t.requests.set n false
      rotation := if t.dispatchMode = .rotating then n else t.rotation
      units := t.units.set u (.admitting n t.lanes[n].copyBytes none)
      lanes := t.lanes.set n { t.lanes[n] with state := .active } } m :=
    ⟨g.asked, by rw [requests, if_neg apart]; exact g.taken, by rw [lanes, if_neg apart]; exact g.active⟩
  refine ⟨fun v m copy unit => ?_, fun m => ?_⟩
  · by_cases same : m = n
    · exact same ▸ granted
    · rw [getElem_set_fin] at unit
      split at unit
      · cases unit
        exact absurd rfl same
      · exact other same (h.admitting v m copy unit)
  · by_cases same : m = n
    · exact .inr (same ▸ granted)
    · obtain ⟨request, lane⟩ | g := h.lanes m
      · exact .inl ⟨by rw [requests, if_neg same]; exact request, by rw [lanes, if_neg same]; exact lane⟩
      · exact .inr (other same g)

theorem State.Served.admitUnit (h : s.Served t) (u : UnitNo) : s.Served (t.admitUnit u) := by
  obtain e | ⟨n, copy, unit, ⟨code, -, e⟩ | ⟨p, -, e⟩⟩ := t.admitUnit_cases u <;> rw [e]
  · exact h
  · have lanes (m : LaneNo) : ((t.setUnit u .idle).setLane n (t.lanes[n].refuse code .itemRefused)).lanes[m] =
        if m = n then t.lanes[n].refuse code .itemRefused else t.lanes[m] := State.setLane_lane ..
    have kept {m : LaneNo} (g : s.Granted t m) :
        s.Granted ((t.setUnit u .idle).setLane n (t.lanes[n].refuse code .itemRefused)) m := by
      refine ⟨g.asked, g.taken, ?_⟩
      rw [lanes]
      split
      · rfl
      · exact g.active
    refine ⟨fun v m copy' unit' => ?_, fun m => ?_⟩
    · rw [State.setLane_units, State.setUnit_unit] at unit'
      split at unit'
      · cases unit'
      · exact kept (h.admitting v m copy' unit')
    · by_cases same : m = n
      · exact .inr (kept (same ▸ h.admitting u n copy unit))
      · refine (h.lanes m).imp (fun old => ⟨old.1, ?_⟩) kept
        rw [lanes, if_neg same]
        exact old.2
  · refine ⟨fun v m copy' unit' => ?_, fun m => (h.lanes m).imp id fun g => ⟨g.asked, g.taken, g.active⟩⟩
    rw [State.setUnit_unit] at unit'
    split at unit'
    · cases unit'
    · obtain ⟨asked, taken, active⟩ := h.admitting v m copy' unit'
      exact ⟨asked, taken, active⟩

theorem State.Served.dispatchRounds (h : s.Served t) (fuel : Nat) : s.Served (t.dispatchRounds fuel) := by
  induction fuel generalizing t with
  | zero => exact h
  | succ fuel ih =>
    cases grant : t.grant with
    | none => rwa [State.dispatchRounds_none grant]
    | some t' =>
      have first := h.grant grant
      have second : s.Served (t'.grantAll 1) := by
        cases grant' : t'.grant with
        | none => rwa [State.grantAll_none grant']
        | some t'' => rw [State.grantAll_one grant']; exact first.grant grant'
      rw [State.dispatchRounds_succ grant]
      exact ih ((second.admitUnit 0).admitUnit 1)

end

/-- What an admission does, by what the checks decide (R46, R47). -/
theorem State.admitUnit_other {s : State} {u : UnitNo} (h : ∀ n copy, s.units[u] ≠ .admitting n copy none) :
    s.admitUnit u = s := by
  obtain e | ⟨n, copy, unit, -⟩ := s.admitUnit_cases u
  · exact e
  · exact absurd unit (h n copy)

theorem State.admitUnit_admitted {s : State} {u : UnitNo} {n : LaneNo} {copy : List Byte} {p : Fin 16}
    (unit : s.units[u] = .admitting n copy none) (admitted : admission copy = .admitted p) :
    s.admitUnit u = s.setUnit u (.admitting n copy (some p)) := by
  simp only [State.admitUnit, unit, admitted]

theorem State.admitUnit_refused {s : State} {u : UnitNo} {n : LaneNo} {copy : List Byte} {code : RefusalCode}
    (unit : s.units[u] = .admitting n copy none) (refused : admission copy = .refused code) :
    s.admitUnit u = (s.setUnit u .idle).setLane n (s.lanes[n].refuse code .itemRefused) := by
  simp only [State.admitUnit, unit, refused]

/-- Settles O40: the rounds by their equation, which go on while a grant can be made, and what they do to a lane. -/
theorem dispatchLeavesNoUnitIdleWhileLanesAsk : Obligations.DispatchLeavesNoUnitIdleWhileLanesAsk := by
  refine fun s => ⟨State.dispatch_none, fun s₁ s₂ first second => ?_, fun s₁ first none => ?_, fun u => ⟨State.admitUnit_other,
    fun n copy unit => ⟨fun p admitted => State.admitUnit_admitted unit admitted,
      fun code refused => State.admitUnit_refused unit refused⟩⟩, fun running => ?_, fun settled n => ?_⟩
  · rw [State.dispatch_round first, State.round, State.grantAll_one second]
  · rw [State.dispatch_round first, State.round, State.grantAll_none none]
  · exact State.idle_or_quiet_of_grant_none (s.dispatch_beside.engine.trans running) s.dispatch_grant_none
  · have start : s.Served s := ⟨fun u n copy unit => absurd unit (settled u n copy), fun n => .inl ⟨rfl, rfl⟩⟩
    exact ((start.dispatchRounds 9).lanes n).imp id fun g => ⟨g.asked, g.taken, g.active⟩

end Sys2Proof.Machine
end

section
/-! A claimed ITEM at the dispatcher, and the hand-back. -/

namespace Sys2Proof.Machine

/-! ### The claimed ITEM -/

section

variable {s : State} {n : LaneNo} {u : UnitNo} {copy : List Byte}

/-- A round with one unit before its admission checks and no lane that asks is that unit's admission (R41, R47). -/
theorem State.round_of_one (quiet : ∀ m : LaneNo, s.requests[m] = false)
    (others : ∀ v : UnitNo, v ≠ u → ∀ m c, s.units[v] ≠ .admitting m c none)
    (after : ∀ m c, (s.admitUnit u).units[u] ≠ .admitting m c none) : s.round = s.admitUnit u := by
  rw [State.round, State.grantAll_none (State.grant_eq_none (.inr (.inr quiet)))]
  obtain rfl | rfl := unitNo_cases u
  · refine State.admitUnit_other fun m c => ?_
    obtain ⟨-, e⟩ | ⟨same, -⟩ := s.admitUnit_unit 0 1
    · rw [e]
      exact others 1 (by decide) m c
    · cases same
  · rw [State.admitUnit_other (u := 0) (others 0 (by decide))]

/-- The state in which lane `n` waits in HOLDING with its request in the set (R28, R40). -/
def State.placed (s : State) (n : LaneNo) : State :=
  { s.setLane n { s.lanes[n] with holds := true, state := .holding, request := none } with
    requests := s.requests.set n true }

theorem exec_claimed_item {a : Addr} {expected replacement : Word}
    (request : s.lanes[n].request = some (.claim a expected replacement)) (copied : s.lanes[n].copy = some copy)
    (kind : (copy.getD 4 0).toNat = 1) : exec (.claimDone n ⟨s.epoch, .ok 1⟩) s = .next (s.placed n).dispatch := by
  have bytes : Lane.copyBytes { s.lanes[n] with holds := true } = copy := by
    show s.lanes[n].copy.getD [] = copy
    rw [copied]
    rfl
  rw [exec_claimed s request]
  simp only [State.actOnKind, bytes, docketKind_item kind]
  rfl

/-- The state in which lane `n` has been granted unit `u`, whose admission checks are to be run (R41). -/
def State.bound (s : State) (n : LaneNo) (u : UnitNo) (copy : List Byte) : State :=
  { s with
    rotation := if s.dispatchMode = .rotating then n else s.rotation
    units := s.units.set u (.admitting n copy none)
    lanes := s.lanes.set n { s.lanes[n] with holds := true, state := .active, request := none } }

/-- The one lane that asks is granted the free unit. -/
theorem State.placed_grant (running : s.engine = .running) (copied : s.lanes[n].copy = some copy)
    (quiet : ∀ m : LaneNo, s.requests[m] = false) (free : s.freeUnit = some u) :
    (s.placed n).grant = some (s.bound n u copy) := by
  have requests (m : LaneNo) : (s.placed n).requests[m] = if m = n then true else s.requests[m] := getElem_set_fin ..
  have wins : (s.placed n).winner = some n := by
    refine State.winner_eq_some (by rw [requests, if_pos rfl]) fun m asks => ?_
    rw [requests] at asks
    split at asks
    · next same => rw [same]
    · cases (quiet m).symm.trans asks
  have lane : (s.placed n).lanes[n] = { s.lanes[n] with holds := true, state := .holding, request := none } :=
    s.setLane_lane_self n _
  have taken : (s.placed n).requests.set n false = s.requests := by
    show (s.requests.set n true).set n false = s.requests
    rw [Vector.set_set, ← quiet n]
    exact Vector.set_getElem_self _
  have bytes : (s.placed n).lanes[n].copyBytes = copy := by
    rw [lane]
    show s.lanes[n].copy.getD [] = copy
    rw [copied]
    rfl
  have lanes : (s.placed n).lanes.set n { (s.placed n).lanes[n] with state := .active } =
      s.lanes.set n { s.lanes[n] with holds := true, state := .active, request := none } := by
    rw [lane]
    exact Vector.set_set ..
  have grant := State.grant_eq_some (s := s.placed n) running free wins
  rw [taken, bytes, lanes] at grant
  exact grant

theorem State.dispatch_quiet (quiet : ∀ m : LaneNo, s.requests[m] = false) : s.dispatch = s :=
  State.dispatch_none (State.grant_eq_none (.inr (.inr quiet)))

end

/-- Settles O28: without a free unit no grant is made; with one, its admission is the round, which is the last. -/
theorem claimedItemAsksForAUnit : Obligations.ClaimedItemAsksForAUnit := by
  intro s n a expected replacement copy request copied kind running settled l rotation
  have claimed := exec_claimed_item request copied kind
  refine ⟨fun busy => ?_, fun quiet u idle first => ?_⟩
  · rw [claimed, State.dispatch_none (s := s.placed n) (State.grant_eq_none (.inr (.inl busy)))]
    rfl
  · have grant := State.placed_grant running copied quiet (State.freeUnit_eq_some idle first)
    have unit : (s.bound n u copy).units[u] = .admitting n copy none := s.setUnit_unit_self u _
    have others (v : UnitNo) (apart : v ≠ u) : ∀ m c, (s.bound n u copy).units[v] ≠ .admitting m c none := by
      show ∀ m c, (s.setUnit u (.admitting n copy none)).units[v] ≠ .admitting m c none
      rw [s.setUnit_unit_other _ (Ne.symm apart)]
      exact settled v
    have lane : (s.bound n u copy).lanes[n] = { s.lanes[n] with holds := true, state := .active, request := none } :=
      s.setLane_lane_self n _
    have served {t : State} (e : (s.bound n u copy).admitUnit u = t) (checked : ∀ m c, t.units[u] ≠ .admitting m c none)
        (silent : ∀ m : LaneNo, t.requests[m] = false) : exec (.claimDone n ⟨s.epoch, .ok 1⟩) s = .next t := by
      have round : (s.bound n u copy).round = t := by
        rw [State.round_of_one (s := s.bound n u copy) quiet others (by rw [e]; exact checked), e]
      rw [claimed, State.dispatch_round grant, round, State.dispatch_quiet silent]
    refine ⟨fun p admitted => ?_, fun code refused => ?_⟩
    · refine (served (State.admitUnit_admitted unit admitted) ?_ quiet).trans (congrArg _ ?_)
      · rw [State.setUnit_unit_self]
        nofun
      · simp only [State.setUnit, State.bound, Vector.set_set]
        rfl
    · refine (served (State.admitUnit_refused unit refused) ?_ quiet).trans (congrArg _ ?_)
      · rw [State.setLane_units, State.setUnit_unit_self]
        nofun
      · have units : (s.units.set u (.admitting n copy none)).set u .idle = s.units := by
          rw [Vector.set_set, ← idle]
          exact Vector.set_getElem_self _
        have bytes : Lane.copyBytes { s.lanes[n] with holds := true, state := .active, request := none } = copy := by
          show s.lanes[n].copy.getD [] = copy
          rw [copied]
          rfl
        rw [lane, Lane.refuse, Lane.beginReport, bytes]
        simp only [State.setLane, State.setUnit, State.bound, Vector.set_set, units]
        rfl

/-! ### The hand-back -/

/-- Settles O44: the hand-back's own equation, and the outcome by the first test that holds. -/
theorem handBackReportsTheItem : Obligations.HandBackReportsTheItem := by
  refine ⟨fun s u it front rear => ?_, fun front rear => ?_⟩
  · have coded : codedSides front rear =
        (if front.status = .coded then 1 else 0) + if rear.status = .coded then 1 else 0 := by
      unfold codedSides
      split_ifs <;> simp [*]
    simp only [State.handBack, coded]
    rfl
  · intro ends flagged
    unfold itemOutcome
    simp only [Bool.or_eq_true]
    split_ifs with readError writeError oversize quality
    · simp [ends, readError]
    · simp [ends, readError, writeError]
    · simp [ends, readError, writeError, oversize]
    · simp [ends, flagged, readError, writeError, oversize, quality]
    · simp [ends, flagged, readError, writeError, oversize, quality]

end Sys2Proof.Machine
end

section
/-! The end of a request of an attempt: what the attempt becomes, what it issues then, and what its end does to the
unit. -/

namespace Sys2Proof.Machine

/-! ### What is in flight -/

section

variable {sd : SideContext} {r : SourceRead} {w : OutputWrite}

theorem SideContext.readInFlight_iff (sd : SideContext) :
    sd.readInFlight = true ↔ ∃ x ∈ sd.reads, x.bytes = none := by
  simp [SideContext.readInFlight]

theorem SideContext.quiet_eq_true (reads : ∀ x ∈ sd.reads, x.bytes ≠ none) (writes : sd.writes = []) :
    sd.quiet = true := by
  have returned : sd.readInFlight = false :=
    Bool.eq_false_iff.2 fun inFlight => by
      obtain ⟨x, mem, waits⟩ := sd.readInFlight_iff.1 inFlight
      exact reads x mem waits
  simp [SideContext.quiet, returned, writes]

theorem SideContext.quiet_eq_false (h : (∃ x ∈ sd.reads, x.bytes = none) ∨ sd.writes ≠ []) : sd.quiet = false := by
  obtain read | write := h
  · simp [SideContext.quiet, sd.readInFlight_iff.2 read]
  · simp [SideContext.quiet, write]

theorem SideContext.findRead_eq_some (mem : r ∈ sd.reads) (waits : r.bytes = none)
    (only : ∀ x ∈ sd.reads, x.row = r.row → x.off = r.off → x = r) : sd.findRead r.row r.off = some r := by
  cases found : sd.findRead r.row r.off with
  | none =>
    have missed := List.find?_eq_none.1 found r mem
    simp [waits] at missed
  | some x =>
    obtain ⟨hx, row, off, -⟩ := SideContext.findRead_mem found
    rw [only x hx row off]

theorem SideContext.accepts_error (h : sd.findRead r.row r.off = some r) : sd.accepts r.row r.off .error = true := by
  simp only [SideContext.accepts, h]

theorem SideContext.accepts_ok {bytes : List Byte} (h : sd.findRead r.row r.off = some r) (length : bytes.length = r.len) :
    sd.accepts r.row r.off (.ok bytes) = true := by
  simp only [SideContext.accepts, h, length, beq_self_eq_true]

theorem SideContext.acceptsWrite_mem (mem : w ∈ sd.writes) : sd.acceptsWrite w.index = true :=
  List.any_eq_true.2 ⟨w, mem, beq_self_eq_true _⟩

/-- The end of a read that its row and byte name alone. -/
theorem SideContext.dropRead_eq (only : ∀ x ∈ sd.reads, x.row = r.row → x.off = r.off → x = r) :
    sd.dropRead r.row r.off = { sd with reads := sd.reads.filter fun x => x ≠ r } := by
  have same : sd.reads.filter (fun x => ¬(x.row = r.row ∧ x.off = r.off)) = sd.reads.filter fun x => x ≠ r := by
    refine List.filter_congr fun x mem => decide_eq_decide.2 (not_congr ⟨fun place => ?_, fun e => ?_⟩)
    · exact only x mem place.1 place.2
    · rw [e]
      exact ⟨rfl, rfl⟩
  rw [SideContext.dropRead, same]

theorem SideContext.fail_eq (sd : SideContext) (status : SideStatus) : sd.fail status =
    { sd with
      reads := sd.reads.filter fun x => x.bytes = none
      phase := .failed status
      packer := { sd.packer with partialBits := [], waiting := [] } } := by
  have same : sd.reads.filter (fun x => x.bytes.isNone) = sd.reads.filter fun x => x.bytes = none :=
    List.filter_congr fun x _ => by cases x.bytes <;> rfl
  rw [SideContext.fail, SideContext.dropReturned, same]

end

/-! ### What an attempt issues by its phase -/

section

variable {sd : SideContext} {d : SideDescriptor} {out : Addr} {draw : Nat}

theorem SideContext.pump_failed {status : SideStatus} (phase : sd.phase = .failed status) : sd.pump d out draw = sd := by
  simp [SideContext.pump, SideContext.pumpWrites, SideContext.pumpReads, phase]

/-- An attempt that has ended completed or oversize writes every byte that waits (R104). -/
theorem SideContext.pump_ended (ended : sd.phase = .completed ∨ sd.phase = .oversize) :
    ∃ sent, sent.flatMap (fun w : OutputWrite => w.bytes) = sd.packer.waiting ∧
      sd.pump d out draw =
        { sd with writes := sd.writes ++ sent, packer := { sd.packer with waiting := [] } } := by
  obtain ⟨sent, waiting, carried, few, e⟩ := sd.issueWrites_cases out draw sd.packer.waiting.length 0
  have none : waiting = [] := List.length_eq_zero_iff.1 (Nat.le_zero.1 (by simpa using few))
  subst none
  have writes : sd.pumpWrites out draw = sd.issueWrites out draw sd.packer.waiting.length 0 := by
    obtain phase | phase := ended <;> simp [SideContext.pumpWrites, phase]
  refine ⟨sent, by simpa using carried, ?_⟩
  have other : sd.phase ≠ .fetching := by obtain phase | phase := ended <;> simp [phase]
  rw [SideContext.pump, writes, e]
  exact if_neg other

theorem SideContext.pump_ended_idle (ended : sd.phase = .completed ∨ sd.phase = .oversize)
    (none : sd.packer.waiting = []) : sd.pump d out draw = sd := by
  have other : sd.phase ≠ .fetching := by obtain phase | phase := ended <;> simp [phase]
  have writes : sd.pumpWrites out draw = sd := by
    obtain phase | phase := ended <;> simp [SideContext.pumpWrites, phase, none, SideContext.issueWrites]
  rw [SideContext.pump, writes]
  exact if_neg other

/-- An attempt that fetches may write some of the bytes that wait and issue more reads (R64, R104). -/
theorem SideContext.pump_fetching (phase : sd.phase = .fetching) : ∃ new sent waiting readRow readOff,
    (∀ x ∈ new, x.bytes = none) ∧ sent.flatMap (fun w : OutputWrite => w.bytes) ++ waiting = sd.packer.waiting ∧
      sd.pump d out draw =
        { sd with
          reads := sd.reads ++ new, readRow := readRow, readOff := readOff, writes := sd.writes ++ sent
          packer := { sd.packer with waiting := waiting } } := by
  obtain ⟨sent, waiting, carried, -, e⟩ := sd.issueWrites_cases out draw (Config.writeCount draw) 0
  have writes : sd.pumpWrites out draw = sd.issueWrites out draw (Config.writeCount draw) 0 := by
    simp [SideContext.pumpWrites, phase]
  obtain ⟨-, new, readRow, readOff, inFlight, reads⟩ | ⟨other, -⟩ := (sd.pumpWrites out draw).pumpReads_cases d draw
  · refine ⟨new, sent, waiting, readRow, readOff, inFlight, carried, ?_⟩
    rw [SideContext.pump, reads, writes, e]
  · rw [writes, e] at other
    exact absurd phase other

end

/-! ### What the end of an attempt does to its unit -/

section

variable {u : ReductionUnit} {it : ItemContext} {d : SideDescriptor} {sd sd' : SideContext} {f r : SideResult} {draw : Nat}

theorem ReductionUnit.settle_goesOn (attempt : u.attempt = some (it, d, sd)) (goes : sd'.ending it.fields = .goesOn) :
    (u.withSide sd').settle draw = u.withSide sd' := by
  obtain ⟨rfl, -⟩ | ⟨f, rfl, -⟩ := u.attempt_cases it d sd attempt <;>
    simp only [ReductionUnit.withSide, ReductionUnit.settle, goes]

theorem ReductionUnit.withSide_ne_compose (attempt : u.attempt = some (it, d, sd)) (it' : ItemContext) (f r : SideResult) :
    u.withSide sd' ≠ .compose it' f r := by
  obtain ⟨rfl, -⟩ | ⟨f, rfl, -⟩ := u.attempt_cases it d sd attempt <;> nofun

theorem SideContext.ending_goesOn {p : Profile} (h : sd.quiet = false ∨ sd.phase = .fetching) :
    sd.ending p = .goesOn := by
  obtain ⟨-, e⟩ | ⟨quiet, phase, -⟩ | ⟨quiet, phase, -⟩ | ⟨quiet, phase, -⟩ | ⟨quiet, st, phase, -⟩ := sd.ending_cases p
  · exact e
  all_goals simp [quiet, phase] at h

theorem SideContext.ending_completed {p : Profile} (quiet : sd.quiet = true) (phase : sd.phase = .completed) :
    sd.ending p = .sideEnds (codedResult p sd) := by
  simp [SideContext.ending, quiet, phase]

theorem SideContext.ending_failed {p : Profile} {st : SideStatus} (quiet : sd.quiet = true) (phase : sd.phase = .failed st) :
    sd.ending p = .sideEnds (uncodedResult st sd.offset sd.step sd.wo sd.ho) := by
  simp [SideContext.ending, quiet, phase]

theorem SideContext.ending_restart {p : Profile} (quiet : sd.quiet = true) (phase : sd.phase = .oversize)
    (below : sd.step < p.fallbackLimit) : sd.ending p = .restart := by
  simp [SideContext.ending, quiet, phase, below]

theorem SideContext.ending_oversize {p : Profile} (quiet : sd.quiet = true) (phase : sd.phase = .oversize)
    (limit : p.fallbackLimit ≤ sd.step) :
    sd.ending p = .sideEnds (uncodedResult .oversize sd.offset sd.step sd.wo sd.ho) := by
  simp [SideContext.ending, quiet, phase, Nat.not_lt.2 limit]

end

/-! ### The commands -/

section

variable {s : State} {u : UnitNo} {it : ItemContext} {d : SideDescriptor} {sd sd' : SideContext}

/-- The end of a read that the attempt has in flight (R64). -/
theorem exec_sourceReadDone {row off : Nat} {result : ReadEnd (List Byte)} (attempt : s.units[u].attempt = some (it, d, sd))
    (accepts : sd.accepts row off result = true) : exec (.sourceReadDone u row off ⟨s.epoch, result⟩) s =
      .next (s.nextDraw.putUnit u ((s.units[u].withSide
        ((sd.readEnded d it.fields row off result).pump d (itemOutputAddress it.copy) s.draws)).settle s.draws)) := by
  simp only [exec, execSourceReadDone, State.stillInFlight_epoch, ReductionUnit.readEnded, attempt, accepts, if_true]

/-- The end of a write that the attempt has in flight (R104). -/
theorem exec_outputWriteDone {index : Nat} {result : WriteEnd} (attempt : s.units[u].attempt = some (it, d, sd))
    (accepts : sd.acceptsWrite index = true) : exec (.outputWriteDone u index ⟨s.epoch, result⟩) s =
      .next (s.nextDraw.putUnit u ((s.units[u].withSide
        ((sd.writeEnded index result).pump d (itemOutputAddress it.copy) s.draws)).settle s.draws)) := by
  simp only [exec, execOutputWriteDone, State.stillInFlight_epoch, ReductionUnit.writeEnded, attempt, accepts, if_true]

/-- The unit with its attempt after an event, settled. -/
def State.afterEvent (s : State) (u : UnitNo) (sd' : SideContext) : State :=
  s.nextDraw.putUnit u ((s.units[u].withSide sd').settle s.draws)

theorem State.afterEvent_goesOn (attempt : s.units[u].attempt = some (it, d, sd))
    (goes : sd'.quiet = false ∨ sd'.phase = .fetching) : s.afterEvent u sd' =
      { s with units := s.units.set u (s.units[u].withSide sd'), draws := s.draws + 1 } := by
  rw [State.afterEvent, ReductionUnit.settle_goesOn attempt (SideContext.ending_goesOn goes)]
  obtain ⟨it', f, r, compose, -⟩ | ⟨-, e⟩ := s.nextDraw.putUnit_cases u (s.units[u].withSide sd')
  · exact absurd compose (ReductionUnit.withSide_ne_compose attempt it' f r)
  · exact e

theorem State.putUnit_compose (s : State) (u : UnitNo) (it : ItemContext) (f r : SideResult) :
    s.putUnit u (.compose it f r) = s.handBack u it f r := by
  have same : (s.setUnit u (.compose it f r)).setUnit u .idle = s.setUnit u .idle := by
    simp only [State.setUnit, Vector.set_set]
  simp only [State.putUnit, State.handBack, same]
  rfl

theorem State.afterEvent_rear_ends {f r : SideResult} (unit : s.units[u] = .rear it f sd)
    (ends : sd'.ending it.fields = .sideEnds r) : s.afterEvent u sd' = s.nextDraw.handBack u it f r := by
  have settled : (s.units[u].withSide sd').settle s.draws = .compose it f r := by
    rw [unit]
    simp only [ReductionUnit.withSide, ReductionUnit.settle, ends]
  rw [State.afterEvent, settled, State.putUnit_compose]

theorem State.afterEvent_front_ends {r : SideResult} (unit : s.units[u] = .front it sd)
    (ends : sd'.ending it.fields = .sideEnds r) : s.afterEvent u sd' = s.nextDraw.putUnit u (frontEnds it r s.draws) := by
  have settled : (s.units[u].withSide sd').settle s.draws = frontEnds it r s.draws := by
    rw [unit]
    simp only [ReductionUnit.withSide, ReductionUnit.settle, ends]
  rw [State.afterEvent, settled]

end

end Sys2Proof.Machine
end

section
/-! The end of a request as the end of a side: CODED, the fallback ladder, and errors. -/

namespace Sys2Proof.Machine

/-! ### The unit after a front side -/

section

variable {it : ItemContext} {r : SideResult} {draw : Nat}

theorem frontEnds_without_rear (absent : itemRearPresent it.copy = false) :
    frontEnds it r draw = .compose it r absentResult := by
  simp [frontEnds, absent]

theorem frontEnds_error (error : r.status.isError = true) :
    frontEnds it r draw = .compose it r (if itemRearPresent it.copy then notRunResult else absentResult) := by
  cases h : itemRearPresent it.copy <;> simp [frontEnds, h, error]

theorem frontEnds_no_budget (present : itemRearPresent it.copy = true) (sound : r.status.isError = false)
    (none : rearBudget it.fields (itemCapacity it.copy) (rearOffset r.byteCount) = 0) :
    frontEnds it r draw = .compose it r (uncodedResult .oversize (rearOffset r.byteCount) 0 0 0) := by
  simp [frontEnds, present, sound, none]

theorem frontEnds_rear (present : itemRearPresent it.copy = true) (sound : r.status.isError = false)
    (room : 0 < rearBudget it.fields (itemCapacity it.copy) (rearOffset r.byteCount)) :
    frontEnds it r draw = .rear it r (beginAttempt (rearDescriptor it.copy) it.fields (rearOffset r.byteCount)
      (rearBudget it.fields (itemCapacity it.copy) (rearOffset r.byteCount)) 0 draw) := by
  simp [frontEnds, present, sound, Nat.ne_of_gt room]

end

/-! ### The state after the last request of an attempt -/

section

variable {s : State} {u : UnitNo} {it : ItemContext} {d : SideDescriptor} {sd sd' : SideContext} {f r : SideResult}

theorem State.afterEvent_front_restarts (unit : s.units[u] = .front it sd) (ends : sd'.ending it.fields = .restart) :
    s.afterEvent u sd' = { s with
      units := s.units.set u (.front it
        (beginAttempt (frontDescriptor it.copy) it.fields sd'.offset sd'.budget (sd'.step + 1) s.draws))
      draws := s.draws + 1 } := by
  rw [State.afterEvent, unit]
  simp only [ReductionUnit.withSide, ReductionUnit.settle, ends]
  rfl

theorem State.afterEvent_rear_restarts (unit : s.units[u] = .rear it f sd) (ends : sd'.ending it.fields = .restart) :
    s.afterEvent u sd' = { s with
      units := s.units.set u (.rear it f
        (beginAttempt (rearDescriptor it.copy) it.fields sd'.offset sd'.budget (sd'.step + 1) s.draws))
      draws := s.draws + 1 } := by
  rw [State.afterEvent, unit]
  simp only [ReductionUnit.withSide, ReductionUnit.settle, ends]
  rfl

/-- The front hands the item back at once, whatever its rear's result is. -/
theorem State.afterEvent_front_composes (unit : s.units[u] = .front it sd) (ends : sd'.ending it.fields = .sideEnds f)
    (after : frontEnds it f s.draws = .compose it f r) : s.afterEvent u sd' = s.nextDraw.handBack u it f r := by
  rw [State.afterEvent_front_ends unit ends, after, State.putUnit_compose]

/-- The rear follows the front. -/
theorem State.afterEvent_front_then_rear (unit : s.units[u] = .front it sd) (ends : sd'.ending it.fields = .sideEnds f)
    (present : itemRearPresent it.copy = true) (sound : f.status.isError = false)
    (room : 0 < rearBudget it.fields (itemCapacity it.copy) (rearOffset f.byteCount)) : ∃ fresh : SideContext,
    s.afterEvent u sd' = { s with units := s.units.set u (.rear it f fresh), draws := s.draws + 1 } ∧
      fresh.Fresh (rearDescriptor it.copy) it.fields (rearOffset f.byteCount)
        (rearBudget it.fields (itemCapacity it.copy) (rearOffset f.byteCount)) 0 := by
  refine ⟨_, ?_, beginAttempt_fresh _ _ _ _ _ s.draws⟩
  rw [State.afterEvent_front_ends unit ends, frontEnds_rear present sound room]
  rfl

/-- One attempt as another, in its step, its geometry and its place in the output. -/
def SideContext.SamePlace (sd' sd : SideContext) : Prop :=
  sd'.step = sd.step ∧ sd'.wo = sd.wo ∧ sd'.ho = sd.ho ∧ sd'.offset = sd.offset ∧ sd'.budget = sd.budget

/-- An oversize attempt with nothing in flight restarts one step lower or ends its side (R53). -/
theorem State.afterEvent_ladder (attempt : s.units[u].attempt = some (it, d, sd)) (place : sd'.SamePlace sd)
    (quiet : sd'.quiet = true) (phase : sd'.phase = .oversize) : s.LadderOutcome u (.next (s.afterEvent u sd')) := by
  obtain ⟨step, wo, ho, offset, budget⟩ := place
  have restarts (below : sd.step < it.fields.fallbackLimit) : sd'.ending it.fields = .restart :=
    SideContext.ending_restart quiet phase (step ▸ below)
  have ends (limit : it.fields.fallbackLimit ≤ sd.step) :
      sd'.ending it.fields = .sideEnds (uncodedResult .oversize sd.offset sd.step sd.wo sd.ho) := by
    rw [SideContext.ending_oversize quiet phase (step ▸ limit), step, wo, ho, offset]
  obtain ⟨unit, -⟩ | ⟨f, unit, -⟩ := s.units[u].attempt_cases it d sd attempt
  · simp only [State.LadderOutcome, unit]
    refine ⟨fun below => ⟨_, ?_, beginAttempt_fresh _ _ _ _ _ s.draws⟩, fun limit => ⟨fun absent => ?_, ?_⟩⟩
    · rw [State.afterEvent_front_restarts unit (restarts below), step, offset, budget]
    · rw [State.afterEvent_front_composes unit (ends limit) (frontEnds_without_rear absent)]
      rfl
    · intro present capacity high
      have first : rearOffset (uncodedResult .oversize sd.offset sd.step sd.wo sd.ho).byteCount = 0 := by
        simp [rearOffset, uncodedResult, ceilDiv]
      have whole : rearBudget it.fields (itemCapacity it.copy) 0 = min it.fields.bytesHigh (itemCapacity it.copy) :=
        if_pos capacity
      obtain ⟨fresh, after, isFresh⟩ := State.afterEvent_front_then_rear unit (ends limit) present rfl
        (by rw [first, whole]; exact lt_min high capacity)
      rw [first, whole] at isFresh
      exact ⟨fresh, congrArg _ after, isFresh⟩
  · simp only [State.LadderOutcome, unit]
    refine ⟨fun below => ⟨_, ?_, beginAttempt_fresh _ _ _ _ _ s.draws⟩, fun limit => ?_⟩
    · rw [State.afterEvent_rear_restarts unit (restarts below), step, offset, budget]
    · rw [State.afterEvent_rear_ends unit (ends limit)]
      rfl

/-- A failed attempt goes on while a request of it is in flight, and then hands the item back (R55, R56). -/
theorem State.afterEvent_failed {status : SideStatus} (attempt : s.units[u].attempt = some (it, d, sd))
    (place : sd'.SamePlace sd) (phase : sd'.phase = .failed status) (error : status.isError = true) :
    ((∃ x ∈ sd'.reads, x.bytes = none) ∨ sd'.writes ≠ [] → s.afterEvent u sd' =
      { s with units := s.units.set u (s.units[u].withSide sd'), draws := s.draws + 1 }) ∧
    ((∀ x ∈ sd'.reads, x.bytes ≠ none) → sd'.writes = [] →
      (s.units[u] = .front it sd → s.afterEvent u sd' = s.nextDraw.handBack u it
        (uncodedResult status sd.offset sd.step sd.wo sd.ho)
        (if itemRearPresent it.copy then notRunResult else absentResult)) ∧
      ∀ front, s.units[u] = .rear it front sd → s.afterEvent u sd' =
        s.nextDraw.handBack u it front (uncodedResult status sd.offset sd.step sd.wo sd.ho)) := by
  refine ⟨fun busy => State.afterEvent_goesOn attempt (.inl (SideContext.quiet_eq_false busy)), fun reads writes => ?_⟩
  obtain ⟨step, wo, ho, offset, -⟩ := place
  have ends := SideContext.ending_failed (p := it.fields) (SideContext.quiet_eq_true reads writes) phase
  rw [step, wo, ho, offset] at ends
  exact ⟨fun unit => State.afterEvent_front_composes unit ends (frontEnds_error error),
    fun front unit => State.afterEvent_rear_ends unit ends⟩

end

/-! ### Ends of requests by the phase they find -/

section

variable {sd : SideContext} {d : SideDescriptor} {p : Profile} {row off index : Nat}

theorem SideContext.readEnded_fetching_ok (phase : sd.phase = .fetching) (bytes : List Byte) :
    sd.readEnded d p row off (.ok bytes) =
      (sd.returnRead row off bytes).takeRows d p (sd.returnRead row off bytes).reads.length := by
  simp only [SideContext.readEnded, phase]

theorem SideContext.readEnded_fetching_error (phase : sd.phase = .fetching) :
    sd.readEnded d p row off .error = (sd.dropRead row off).fail .readError := by
  simp only [SideContext.readEnded, phase]

theorem SideContext.readEnded_later (phase : sd.phase ≠ .fetching) (result : ReadEnd (List Byte)) :
    sd.readEnded d p row off result = sd.dropRead row off := by
  unfold SideContext.readEnded
  split
  · next fetching => exact absurd fetching phase
  · next fetching => exact absurd fetching phase
  · rfl

theorem SideContext.writeEnded_ok : sd.writeEnded index .ok = sd.dropWrite index := by
  cases phase : sd.phase <;> simp only [SideContext.writeEnded, phase]

theorem SideContext.writeEnded_failed {status : SideStatus} (phase : sd.phase = .failed status) (result : WriteEnd) :
    sd.writeEnded index result = sd.dropWrite index := by
  simp only [SideContext.writeEnded, phase]

theorem SideContext.writeEnded_error (sound : ∀ st, sd.phase ≠ .failed st) :
    sd.writeEnded index .error = (sd.dropWrite index).fail .writeError := by
  cases phase : sd.phase
  case failed status => exact absurd phase (sound status)
  all_goals simp only [SideContext.writeEnded, phase]

end

/-- Settles O45: the write leaves its list, and the attempt goes on or ends its side. -/
theorem completedAttemptEndsItsSideCoded : Obligations.CompletedAttemptEndsItsSideCoded := by
  refine ⟨fun s u it d sd w attempt mem sound => ?_, fun s u it sd w phase reads writes waiting => ?_⟩
  · intro left becomes
    have ran := exec_outputWriteDone (result := .ok) attempt (SideContext.acceptsWrite_mem mem)
    rw [SideContext.writeEnded_ok] at ran
    refine ⟨fun phase => ?_, fun phase busy => ?_⟩
    · obtain ⟨new, sent, waiting, readRow, readOff, inFlight, carried, e⟩ :=
        SideContext.pump_fetching (sd := sd.dropWrite w.index) (d := d) (out := itemOutputAddress it.copy) (draw := s.draws) phase
      refine ⟨new, sent, waiting, readRow, readOff, inFlight, carried, ?_⟩
      rw [e] at ran
      exact ran.trans (congrArg _ (State.afterEvent_goesOn attempt (.inr phase)))
    · have ended : sd.phase = .completed ∨ sd.phase = .oversize := by
        cases h : sd.phase with
        | fetching => exact absurd h phase
        | completed => exact .inl rfl
        | oversize => exact .inr rfl
        | failed st => exact absurd h (sound st)
      obtain ⟨sent, carried, e⟩ :=
        SideContext.pump_ended (sd := sd.dropWrite w.index) (d := d) (out := itemOutputAddress it.copy) (draw := s.draws) ended
      refine ⟨sent, carried, ?_⟩
      rw [e] at ran
      refine ran.trans (congrArg _ (State.afterEvent_goesOn attempt (.inl (SideContext.quiet_eq_false ?_))))
      refine busy.imp id fun more none => ?_
      obtain ⟨noneLeft, noneSent⟩ := List.append_eq_nil_iff.1 none
      obtain leftOver | waits := more
      · exact leftOver noneLeft
      · exact waits (by rw [← show _ = sd.packer.waiting from carried, noneSent]; rfl)
  · intro ended drawn coded offset budget
    have last : sd.dropWrite w.index = { sd with writes := [] } := by
      simp [SideContext.dropWrite, writes]
    have ends : SideContext.ending it.fields { sd with writes := [] } = .sideEnds coded :=
      SideContext.ending_completed (SideContext.quiet_eq_true (by simp [reads]) rfl) phase
    have ran {d : SideDescriptor} (attempt : s.units[u].attempt = some (it, d, sd)) :
        ended = .next (s.afterEvent u { sd with writes := [] }) := by
      have done := exec_outputWriteDone (result := .ok) attempt (SideContext.acceptsWrite_mem (w := w) (by simp [writes]))
      rw [SideContext.writeEnded_ok, last,
        SideContext.pump_ended_idle (sd := { sd with writes := [] }) (.inl phase) waiting] at done
      exact done
    have front (unit : s.units[u] = .front it sd) : ended = .next (s.afterEvent u { sd with writes := [] }) :=
      ran (d := frontDescriptor it.copy) (by rw [unit]; rfl)
    refine ⟨fun f unit => ?_, fun unit absent => ?_, fun unit present none => ?_, fun unit present room => ?_⟩
    · rw [ran (d := rearDescriptor it.copy) (by rw [unit]; rfl), State.afterEvent_rear_ends unit ends]
      rfl
    · rw [front unit, State.afterEvent_front_composes unit ends (frontEnds_without_rear absent)]
      rfl
    · rw [front unit, State.afterEvent_front_composes unit ends (frontEnds_no_budget present rfl none)]
      rfl
    · obtain ⟨fresh, after, isFresh⟩ := State.afterEvent_front_then_rear unit ends present rfl room
      exact ⟨fresh, (front unit).trans (congrArg _ after), isFresh⟩

/-- Settles O46: the read's result is discarded, and the last request leads to the ladder. -/
theorem oversizeAttemptFallsBackOrEnds : Obligations.OversizeAttemptFallsBackOrEnds := by
  intro s u it d sd attempt phase waiting readEnds
  have other : sd.phase ≠ .fetching := by simp [phase]
  have ran {r : SourceRead} (mem : r ∈ sd.reads) (waits : r.bytes = none)
      (only : ∀ x ∈ sd.reads, x.row = r.row → x.off = r.off → x = r) {c : Instr} (ends : readEnds r c) :
      exec c s = .next (s.afterEvent u { sd with reads := sd.reads.filter fun x => x ≠ r }) := by
    have found := SideContext.findRead_eq_some mem waits only
    have discards {result : ReadEnd (List Byte)} (accepts : sd.accepts r.row r.off result = true) :
        exec (.sourceReadDone u r.row r.off ⟨s.epoch, result⟩) s =
          .next (s.afterEvent u { sd with reads := sd.reads.filter fun x => x ≠ r }) := by
      have done := exec_sourceReadDone attempt accepts
      rw [SideContext.readEnded_later other, SideContext.dropRead_eq only,
        SideContext.pump_ended_idle (sd := { sd with reads := sd.reads.filter fun x => x ≠ r }) (.inr phase) waiting] at done
      exact done
    obtain rfl | ⟨bytes, length, rfl⟩ := ends
    · exact discards (SideContext.accepts_error found)
    · exact discards (SideContext.accepts_ok found length)
  refine ⟨fun r mem waits only => ?_, fun c ends => ?_⟩
  · intro left c ends busy
    rw [ran mem waits only ends, State.afterEvent_goesOn attempt (.inl (SideContext.quiet_eq_false busy))]
  · obtain ⟨w, reads, writes, rfl⟩ | ⟨r, reads, waits, writes, ends⟩ := ends
    · have last : sd.dropWrite w.index = { sd with writes := [] } := by
        simp [SideContext.dropWrite, writes]
      have done := exec_outputWriteDone (result := .ok) attempt (SideContext.acceptsWrite_mem (w := w) (by simp [writes]))
      rw [SideContext.writeEnded_ok, last,
        SideContext.pump_ended_idle (sd := { sd with writes := [] }) (.inr phase) waiting] at done
      rw [done]
      exact State.afterEvent_ladder attempt ⟨rfl, rfl, rfl, rfl, rfl⟩ (SideContext.quiet_eq_true (by simp [reads]) rfl) phase
    · have mem : r ∈ sd.reads := by simp [reads]
      have only : ∀ x ∈ sd.reads, x.row = r.row → x.off = r.off → x = r := by simp [reads]
      rw [ran mem waits only ends]
      exact State.afterEvent_ladder attempt ⟨rfl, rfl, rfl, rfl, rfl⟩
        (SideContext.quiet_eq_true (by simp [reads]) writes) phase

/-- Settles O47: the first error, and the end of any request of a failed attempt. -/
theorem firstErrorEndsTheSide : Obligations.FirstErrorEndsTheSide := by
  intro s u it d sd attempt drawn side leaves fails
  have leads {c : Instr} {status : SideStatus} {sd' : SideContext} (ran : exec c s = .next (s.afterEvent u sd'))
      (place : sd'.SamePlace sd) (phase : sd'.phase = .failed status) (error : status.isError = true) :
      leaves c status sd' := by
    obtain ⟨goes, hands⟩ := State.afterEvent_failed attempt place phase error
    refine ⟨fun busy => ran.trans (congrArg _ (goes busy)), fun reads writes => ?_⟩
    obtain ⟨front, rear⟩ := hands reads writes
    exact ⟨fun unit => ran.trans (congrArg _ (front unit)), fun f unit => ran.trans (congrArg _ (rear f unit))⟩
  have isError {st : SideStatus} (h : st = .readError ∨ st = .writeError) : st.isError = true := by
    obtain rfl | rfl := h <;> rfl
  refine ⟨fun r mem waits only => ?_, fun w mem => ?_⟩
  · intro left
    refine ⟨fun phase => ?_, fun st phase error => ?_⟩
    · have done := exec_sourceReadDone (result := .error) attempt
        (SideContext.accepts_error (SideContext.findRead_eq_some mem waits only))
      rw [SideContext.readEnded_fetching_error phase, SideContext.dropRead_eq only, SideContext.fail_eq,
        SideContext.pump_failed rfl] at done
      exact leads done ⟨rfl, rfl, rfl, rfl, rfl⟩ rfl rfl
    · have found := SideContext.findRead_eq_some mem waits only
      have other : sd.phase ≠ .fetching := by simp [phase]
      have discards {result : ReadEnd (List Byte)} (accepts : sd.accepts r.row r.off result = true) :
          leaves (.sourceReadDone u r.row r.off ⟨s.epoch, result⟩) st { sd with reads := left } := by
        have done := exec_sourceReadDone attempt accepts
        rw [SideContext.readEnded_later other, SideContext.dropRead_eq only,
          SideContext.pump_failed (sd := { sd with reads := left }) phase] at done
        exact leads done ⟨rfl, rfl, rfl, rfl, rfl⟩ phase (isError error)
      exact ⟨discards (SideContext.accepts_error found), fun bytes length => discards (SideContext.accepts_ok found length)⟩
  · intro left
    refine ⟨fun sound => ?_, fun st phase error => ?_⟩
    · have done := exec_outputWriteDone (result := .error) attempt (SideContext.acceptsWrite_mem mem)
      rw [SideContext.writeEnded_error sound, SideContext.fail_eq, SideContext.pump_failed rfl] at done
      exact leads done ⟨rfl, rfl, rfl, rfl, rfl⟩ rfl rfl
    · have ends (result : WriteEnd) : leaves (.outputWriteDone u w.index ⟨s.epoch, result⟩) st { sd with writes := left } := by
        have done := exec_outputWriteDone (result := result) attempt (SideContext.acceptsWrite_mem mem)
        rw [SideContext.writeEnded_failed phase, SideContext.pump_failed (sd := sd.dropWrite w.index) phase] at done
        exact leads done ⟨rfl, rfl, rfl, rfl, rfl⟩ phase (isError error)
      exact ⟨ends .ok, ends .error⟩

end Sys2Proof.Machine
end

section
/-! Source rows: one row taken, the rows that a read completes, and what follows. -/

namespace Sys2Proof.Machine

/-! ### A row coded -/

theorem Packer.completeByte_leaves (budget : Nat) (k : Packer) (bits : List Bool) :
    (k.completeByte budget bits).overBudget = false → (k.completeByte budget bits).waiting ≠ [] := by
  unfold Packer.completeByte
  split <;> intro within
  · simp
  · cases within

/-- A bit appended without oversize leaves bits or bytes to be written. -/
theorem Packer.appendBit_leaves (budget : Nat) (k : Packer) (bit : Bool) : (k.appendBit budget bit).overBudget = false →
    (k.appendBit budget bit).partialBits ≠ [] ∨ (k.appendBit budget bit).waiting ≠ [] := by
  unfold Packer.appendBit
  split_ifs with already <;> intro within
  · cases already.symm.trans within
  · exact .inr (k.completeByte_leaves _ _ within)
  · exact .inl (by simp)

theorem Packer.append_leaves {budget : Nat} {k : Packer} {bits : List Bool} (some : bits ≠ [])
    (within : (k.append budget bits).overBudget = false) :
    (k.append budget bits).partialBits ≠ [] ∨ (k.append budget bits).waiting ≠ [] := by
  obtain ⟨init, bit, rfl⟩ := (List.eq_nil_or_concat' bits).resolve_left some
  have last : k.append budget (init ++ [bit]) = (k.append budget init).appendBit budget bit := by
    simp [Packer.append, List.foldl_append]
  rw [last] at within ⊢
  exact Packer.appendBit_leaves _ _ _ within

/-- The end of a stream that has left bits or bytes leaves bytes. -/
theorem Packer.finish_leaves {budget : Nat} {k : Packer} (left : k.partialBits ≠ [] ∨ k.waiting ≠ []) :
    (k.finish budget).overBudget = false → (k.finish budget).waiting ≠ [] := by
  unfold Packer.finish
  split <;> intro within
  · next nothing =>
    have whole : k.partialBits = [] := by simpa [within] using nothing
    exact left.resolve_left fun partly => partly whole
  · exact k.completeByte_leaves _ _ within

theorem rowCode_ne_nil (k : Nat) (previous : Option (List Bool)) (row : List Bool) : rowCode k previous row ≠ [] := by
  unfold rowCode
  split <;> simp

section

variable {sd : SideContext} {p : Profile} {row : List Bool}

/-- The packer after the code of `row` (R94, R101). -/
def SideContext.packed (sd : SideContext) (p : Profile) (row : List Bool) : Packer :=
  sd.packer.append sd.budget (rowCode p.runOrder sd.previous row)

theorem SideContext.codeRow_over (exceeds : (sd.packed p row).overBudget = true) :
    sd.codeRow p row = { sd with packer := sd.packed p row }.goOversize :=
  if_pos exceeds

theorem SideContext.codeRow_within (within : (sd.packed p row).overBudget = false) (more : sd.outRow + 1 < sd.ho) :
    sd.codeRow p row = { sd with packer := sd.packed p row, previous := some row, outRow := sd.outRow + 1 } :=
  (if_neg (Bool.eq_false_iff.1 within)).trans (if_pos more)

theorem SideContext.codeRow_last (within : (sd.packed p row).overBudget = false) (last : sd.ho ≤ sd.outRow + 1)
    (ends : ((sd.packed p row).finish sd.budget).overBudget = false) : sd.codeRow p row =
      { sd with
        packer := (sd.packed p row).finish sd.budget, previous := some row, outRow := sd.outRow + 1
        phase := .completed } :=
  (if_neg (Bool.eq_false_iff.1 within)).trans
    ((if_neg (Nat.not_lt.2 last)).trans (if_neg (Bool.eq_false_iff.1 ends)))

theorem SideContext.codeRow_last_over (within : (sd.packed p row).overBudget = false) (last : sd.ho ≤ sd.outRow + 1)
    (exceeds : ((sd.packed p row).finish sd.budget).overBudget = true) : sd.codeRow p row =
      { sd with
        packer := (sd.packed p row).finish sd.budget, previous := some row, outRow := sd.outRow + 1 }.goOversize :=
  (if_neg (Bool.eq_false_iff.1 within)).trans ((if_neg (Nat.not_lt.2 last)).trans (if_pos exceeds))

/-- What taking a row may make of an attempt that fetches: it goes on with its reads; it has ended completed, with
bytes to write; or it has ended oversize, with the reads in flight alone. -/
def SideContext.Takes (sd sd' : SideContext) : Prop :=
  (sd'.phase = .fetching ∧ sd'.reads = sd.reads) ∨ (sd'.phase = .completed ∧ sd'.packer.waiting ≠ []) ∨
    sd'.phase = .oversize ∧ ∀ x ∈ sd'.reads, x.bytes = none

theorem SideContext.Takes.reads {sd' : SideContext} (h : sd.Takes sd') (fetching : sd'.phase = .fetching) :
    sd'.reads = sd.reads := by
  obtain ⟨-, reads⟩ | ⟨completed, -⟩ | ⟨oversize, -⟩ := h
  · exact reads
  · cases completed.symm.trans fetching
  · cases oversize.symm.trans fetching

theorem SideContext.Takes.ended {sd' : SideContext} (h : sd.Takes sd') (other : sd'.phase ≠ .fetching) :
    sd'.phase = .completed ∨ sd'.phase = .oversize := by
  obtain ⟨fetching, -⟩ | ⟨completed, -⟩ | ⟨oversize, -⟩ := h
  · exact absurd fetching other
  · exact .inl completed
  · exact .inr oversize

/-- An attempt that a row has ended goes on while it has a byte to write or a request in flight. -/
theorem SideContext.Takes.busy {sd' : SideContext} (h : sd.Takes sd') (other : sd'.phase ≠ .fetching)
    {writes : List OutputWrite} (written : sd'.packer.waiting ≠ [] → writes ≠ [])
    (some : sd'.phase = .completed ∨ sd'.reads ≠ [] ∨ writes ≠ []) : (∃ x ∈ sd'.reads, x.bytes = none) ∨ writes ≠ [] := by
  obtain ⟨fetching, -⟩ | ⟨-, waits⟩ | ⟨oversize, inFlight⟩ := h
  · exact absurd fetching other
  · exact .inr (written waits)
  · obtain completed | reads | writes := some
    · cases oversize.symm.trans completed
    · obtain ⟨x, mem⟩ := List.exists_mem_of_ne_nil _ reads
      exact .inl ⟨x, mem, inFlight x mem⟩
    · exact .inr writes

theorem SideContext.goOversize_takes (base : SideContext) : sd.Takes base.goOversize :=
  .inr (.inr ⟨rfl, fun _ mem => Option.isNone_iff_eq_none.1 (List.mem_filter.1 mem).2⟩)

/-- A row coded, by whether the budget holds it and whether it is the last. -/
theorem SideContext.codeRow_takes (fetching : sd.phase = .fetching) :
    sd.Takes (sd.codeRow p row) ∧ (sd.codeRow p row).SamePlace sd ∧ (sd.codeRow p row).writes = sd.writes ∧
      (sd.codeRow p row).nextRow = sd.nextRow := by
  cases within : (sd.packed p row).overBudget with
  | true =>
    rw [SideContext.codeRow_over within]
    exact ⟨SideContext.goOversize_takes _, ⟨rfl, rfl, rfl, rfl, rfl⟩, rfl, rfl⟩
  | false =>
    obtain more | last := Nat.lt_or_ge (sd.outRow + 1) sd.ho
    · rw [SideContext.codeRow_within within more]
      exact ⟨.inl ⟨fetching, rfl⟩, ⟨rfl, rfl, rfl, rfl, rfl⟩, rfl, rfl⟩
    · cases ends : ((sd.packed p row).finish sd.budget).overBudget with
      | true =>
        rw [SideContext.codeRow_last_over within last ends]
        exact ⟨SideContext.goOversize_takes _, ⟨rfl, rfl, rfl, rfl, rfl⟩, rfl, rfl⟩
      | false =>
        rw [SideContext.codeRow_last within last ends]
        have left := Packer.append_leaves (rowCode_ne_nil p.runOrder sd.previous row) within
        exact ⟨.inr (.inl ⟨rfl, Packer.finish_leaves left ends⟩), ⟨rfl, rfl, rfl, rfl, rfl⟩, rfl, rfl⟩

/-- A row coded takes no account of the reads, unless it is the last. -/
theorem SideContext.codeRow_reads (fetching : (sd.codeRow p row).phase = .fetching) (reads : List SourceRead) :
    { sd with reads := reads }.codeRow p row = { sd.codeRow p row with reads := reads } := by
  cases within : (sd.packed p row).overBudget with
  | true =>
    rw [SideContext.codeRow_over within] at fetching
    cases fetching
  | false =>
    obtain more | last := Nat.lt_or_ge (sd.outRow + 1) sd.ho
    · rw [SideContext.codeRow_within within more]
      exact SideContext.codeRow_within (sd := { sd with reads := reads }) within more
    · cases ends : ((sd.packed p row).finish sd.budget).overBudget with
      | true =>
        rw [SideContext.codeRow_last_over within last ends] at fetching
        cases fetching
      | false =>
        rw [SideContext.codeRow_last within last ends] at fetching
        cases fetching

end

/-! ### A source row taken -/

section

variable {sd : SideContext} {d : SideDescriptor} {p : Profile} {bytes : List Byte}

/-- The accumulators after a source row (R73, R75). -/
def SideContext.sums (sd : SideContext) (d : SideDescriptor) (bytes : List Byte) : List Accumulator :=
  accumulateFrom d.ws sd.wo 0 (d.greyRow bytes) sd.accumulators

/-- The output row that the averages of a source row complete (R76, R81). -/
def SideContext.outputRow (sd : SideContext) (d : SideDescriptor) (p : Profile) (bytes : List Byte) : BinarisedRow :=
  binariseRow p sd.trackers sd.inkCounters ((sd.sums d bytes).map (·.average))

/-- The attempt with a complete output row binarised, before it is coded. -/
def SideContext.binarised (sd : SideContext) (d : SideDescriptor) (p : Profile) (bytes : List Byte) : SideContext :=
  { sd with
    nextRow := sd.nextRow + 1, accumulators := List.replicate sd.wo { sum := 0, count := 0 }
    trackers := (sd.outputRow d p bytes).trackers, inkCounters := (sd.outputRow d p bytes).inkCounters }

/-- Whether the next source row is the last of its output row (R74). -/
def SideContext.CompletesRow (sd : SideContext) (d : SideDescriptor) : Prop :=
  sd.nextRow + 1 = groupStart d.hs sd.ho (sd.outRow + 1)

theorem SideContext.takeRow_before (before : ¬ sd.CompletesRow d) :
    sd.takeRow d p bytes = { sd with nextRow := sd.nextRow + 1, accumulators := sd.sums d bytes } :=
  if_neg before

theorem SideContext.takeRow_completes (completes : sd.CompletesRow d) :
    sd.takeRow d p bytes = (sd.binarised d p bytes).codeRow p (sd.outputRow d p bytes).colours :=
  if_pos completes

theorem SideContext.takeRow_takes (fetching : sd.phase = .fetching) (d : SideDescriptor) (p : Profile) (bytes : List Byte) :
    sd.Takes (sd.takeRow d p bytes) ∧ (sd.takeRow d p bytes).SamePlace sd ∧
      (sd.takeRow d p bytes).writes = sd.writes ∧ (sd.takeRow d p bytes).nextRow = sd.nextRow + 1 := by
  by_cases completes : sd.CompletesRow d
  · rw [SideContext.takeRow_completes completes]
    exact SideContext.codeRow_takes (sd := sd.binarised d p bytes) fetching
  · rw [SideContext.takeRow_before completes]
    exact ⟨.inl ⟨fetching, rfl⟩, ⟨rfl, rfl, rfl, rfl, rfl⟩, rfl, rfl⟩

theorem SideContext.takeRow_reads (fetching : (sd.takeRow d p bytes).phase = .fetching) (reads : List SourceRead) :
    { sd with reads := reads }.takeRow d p bytes = { sd.takeRow d p bytes with reads := reads } := by
  by_cases completes : sd.CompletesRow d
  · rw [SideContext.takeRow_completes completes] at fetching ⊢
    rw [SideContext.takeRow_completes (sd := { sd with reads := reads }) completes]
    exact SideContext.codeRow_reads fetching reads
  · rw [SideContext.takeRow_before completes]
    exact SideContext.takeRow_before (sd := { sd with reads := reads }) completes

end

/-! ### The rows that a read completes -/

/-- The bytes that reads have returned, in their order. -/
def returnedBytes (reads : List SourceRead) : List Byte :=
  reads.flatMap fun x => x.bytes.getD []

section

variable {sd : SideContext} {d : SideDescriptor} {p : Profile}

/-- The next row is complete, and the reads after it are of other rows. -/
theorem SideContext.nextRowBytes_eq_some {mine later : List SourceRead} (reads : sd.reads = mine ++ later)
    (complete : ∀ x ∈ mine, x.row = sd.nextRow ∧ x.bytes ≠ none) (length : (returnedBytes mine).length = d.usedBytes)
    (others : ∀ x ∈ later, x.row ≠ sd.nextRow) : sd.nextRowBytes d = some (returnedBytes mine, later) := by
  have ofRow : ∀ x ∈ mine, (x.row == sd.nextRow) = true := fun x mem => beq_iff_eq.2 (complete x mem).1
  have ended : later.takeWhile (fun x => x.row == sd.nextRow) = [] ∧
      later.dropWhile (fun x => x.row == sd.nextRow) = later := by
    cases later with
    | nil => exact ⟨rfl, rfl⟩
    | cons x xs =>
      have other : (x.row == sd.nextRow) = false := beq_eq_false_iff_ne.2 (others x List.mem_cons_self)
      simp [other]
  have taken : sd.reads.takeWhile (fun x => x.row == sd.nextRow) = mine := by
    rw [reads, List.takeWhile_append_of_pos ofRow, ended.1, List.append_nil]
  have dropped : sd.reads.dropWhile (fun x => x.row == sd.nextRow) = later := by
    rw [reads, List.dropWhile_append_of_pos ofRow, ended.2]
  have returned : mine.all (fun x => x.bytes.isSome) = true :=
    List.all_eq_true.2 fun x mem => Option.isSome_iff_ne_none.2 (complete x mem).2
  have whole : ((mine.flatMap fun x => x.bytes.getD []).length == d.usedBytes) = true := beq_iff_eq.2 length
  simp only [SideContext.nextRowBytes, taken, dropped, returned, whole, Bool.and_self, if_true]
  rfl

theorem SideContext.nextRowBytes_eq_none {next : List SourceRead}
    (reads : sd.reads.takeWhile (fun x => x.row == sd.nextRow) = next)
    (lacks : (∃ x ∈ next, x.bytes = none) ∨ (returnedBytes next).length ≠ d.usedBytes) : sd.nextRowBytes d = none := by
  unfold SideContext.nextRowBytes
  dsimp only
  rw [reads]
  refine if_neg fun complete => ?_
  obtain ⟨returned, length⟩ := Bool.and_eq_true_iff.1 complete
  obtain ⟨x, mem, waits⟩ | short := lacks
  · have some := List.all_eq_true.1 returned x mem
    rw [waits] at some
    cases some
  · exact short (beq_iff_eq.1 length)

/-- The rows of `rows` taken one after another. -/
def SideContext.takeAll (sd : SideContext) (d : SideDescriptor) (p : Profile) (rows : List (List SourceRead)) : SideContext :=
  rows.foldl (fun c reads => c.takeRow d p (returnedBytes reads)) sd

/-- What taking rows makes of an attempt that fetches before each of them. -/
theorem SideContext.takeAll_takes (fetching : sd.phase = .fetching) (rows : List (List SourceRead))
    (before : ∀ k, k < rows.length → (sd.takeAll d p (rows.take k)).phase = .fetching) :
    sd.Takes (sd.takeAll d p rows) ∧ (sd.takeAll d p rows).SamePlace sd ∧ (sd.takeAll d p rows).writes = sd.writes ∧
      (sd.takeAll d p rows).nextRow = sd.nextRow + rows.length := by
  induction rows using List.reverseRecOn with
  | nil => exact ⟨.inl ⟨fetching, rfl⟩, ⟨rfl, rfl, rfl, rfl, rfl⟩, rfl, rfl⟩
  | append_singleton rows last ih =>
    have earlier (k : Nat) (h : k ≤ rows.length) : (rows ++ [last]).take k = rows.take k :=
      List.take_append_of_le_length h
    have length : (rows ++ [last]).length = rows.length + 1 := by simp
    obtain ⟨takes, place, writes, nextRow⟩ := ih fun k h => by
      rw [← earlier k (Nat.le_of_lt h)]
      exact before k (by omega)
    have goesOn : (sd.takeAll d p rows).phase = .fetching := by
      have all := before rows.length (by omega)
      rwa [earlier _ le_rfl, List.take_length] at all
    have reads : (sd.takeAll d p rows).reads = sd.reads := takes.reads goesOn
    obtain ⟨takes', place', writes', nextRow'⟩ := SideContext.takeRow_takes goesOn d p (returnedBytes last)
    obtain ⟨step, wo, ho, offset, budget⟩ := place
    obtain ⟨step', wo', ho', offset', budget'⟩ := place'
    have whole : sd.takeAll d p (rows ++ [last]) = (sd.takeAll d p rows).takeRow d p (returnedBytes last) := by
      simp [SideContext.takeAll, List.foldl_append]
    rw [whole, length]
    refine ⟨?_, ⟨step'.trans step, wo'.trans wo, ho'.trans ho, offset'.trans offset, budget'.trans budget⟩,
      writes'.trans writes, by omega⟩
    rw [SideContext.Takes, reads] at takes'
    exact takes'

/-- Every complete row is taken, each from its own bytes, until a row lacks some or the attempt has ended (R64). -/
theorem SideContext.takeRows_eq_takeAll (rows : List (List SourceRead)) (fuel : Nat) (enough : rows.length ≤ fuel)
    (complete : ∀ i (h : i < rows.length), (∀ x ∈ rows[i], x.row = sd.nextRow + i ∧ x.bytes ≠ none) ∧
      (returnedBytes rows[i]).length = d.usedBytes)
    (later : ∀ x ∈ sd.reads, sd.nextRow + rows.length ≤ x.row)
    (before : ∀ k, k < rows.length → (sd.takeAll d p (rows.take k)).phase = .fetching)
    (stops : (sd.takeAll d p rows).phase = .fetching → (sd.takeAll d p rows).nextRowBytes d = none) :
    { sd with reads := rows.flatten ++ sd.reads }.takeRows d p fuel = sd.takeAll d p rows := by
  induction rows generalizing sd fuel with
  | nil =>
    show sd.takeRows d p fuel = sd
    cases fuel with
    | zero => rfl
    | succ fuel =>
      rw [SideContext.takeRows]
      split
      · next fetching => rw [show sd.nextRowBytes d = none from stops fetching]
      · rfl
  | cons reads rows ih =>
    obtain ⟨fuel, rfl⟩ : ∃ n, fuel = n + 1 := ⟨fuel - 1, by simp at enough; omega⟩
    have fetching : sd.phase = .fetching := before 0 (by simp)
    obtain ⟨ofRow, length⟩ := complete 0 (by simp)
    have others : ∀ x ∈ rows.flatten ++ sd.reads, x.row ≠ sd.nextRow := by
      intro x mem
      obtain taken | kept := List.mem_append.1 mem
      · obtain ⟨row, rowMem, xMem⟩ := List.mem_flatten.1 taken
        obtain ⟨i, h, rfl⟩ := List.getElem_of_mem rowMem
        have place := ((complete (i + 1) (by simpa using h)).1 x (by simpa using xMem)).1
        omega
      · have place := later x kept
        simp at place
        omega
    have bytes := SideContext.nextRowBytes_eq_some (sd := { sd with reads := (reads :: rows).flatten ++ sd.reads }) (d := d)
      (mine := reads) (later := rows.flatten ++ sd.reads) (by simp) (by simpa using ofRow) (by simpa using length) others
    obtain ⟨takes, -, -, nextRow⟩ := SideContext.takeRow_takes fetching d p (returnedBytes reads)
    have row : { sd with reads := rows.flatten ++ sd.reads }.takeRow d p (returnedBytes reads) =
        { sd.takeRow d p (returnedBytes reads) with
          reads := rows.flatten ++ (sd.takeRow d p (returnedBytes reads)).reads } := by
      cases rows with
      | nil => rfl
      | cons reads' rows =>
        have goesOn : (sd.takeRow d p (returnedBytes reads)).phase = .fetching := before 1 (by simp)
        rw [SideContext.takeRow_reads goesOn, takes.reads goesOn]
    rw [SideContext.takeRows, if_pos fetching, bytes]
    dsimp only
    rw [row]
    refine ih fuel (by simpa using enough) (fun i h => ?_) (fun x mem => ?_) (fun k h => ?_) stops
    · obtain ⟨place, count⟩ := complete (i + 1) (by simpa using h)
      refine ⟨fun x mem => ?_, by simpa using count⟩
      obtain ⟨xRow, returned⟩ := place x (by simpa using mem)
      exact ⟨by omega, returned⟩
    · have place := later x ((SideContext.takeRow_goesOn (returnedBytes reads)).reads.subset mem)
      simp at place
      omega
    · exact before (k + 1) (by simpa using h)

end

/-! ### The read that completes rows -/

theorem SideContext.returnRead_eq {sd : SideContext} {r : SourceRead} (bytes : List Byte)
    (only : ∀ x ∈ sd.reads, x.row = r.row → x.off = r.off → x = r) : sd.returnRead r.row r.off bytes =
      { sd with reads := sd.reads.map fun x => if x = r then { x with bytes := some bytes } else x } := by
  have same : sd.reads.map (fun x => if x.row = r.row ∧ x.off = r.off then { x with bytes := some bytes } else x) =
      sd.reads.map fun x => if x = r then { x with bytes := some bytes } else x := by
    refine List.map_congr_left fun x mem => if_congr ⟨fun place => only x mem place.1 place.2, ?_⟩ rfl rfl
    rintro rfl
    exact ⟨rfl, rfl⟩
  rw [SideContext.returnRead, same]

theorem length_le_flatten {rows : List (List SourceRead)} (some : ∀ reads ∈ rows, reads ≠ []) :
    rows.length ≤ rows.flatten.length := by
  rw [List.length_flatten]
  have each := List.length_le_sum_of_one_le (rows.map List.length) (by
    intro n mem
    obtain ⟨reads, readsMem, rfl⟩ := List.mem_map.1 mem
    exact List.length_pos_of_ne_nil (some reads readsMem))
  rwa [List.length_map] at each

/-- Settles O43: a row taken by whether it completes an output row and whether the budget holds that row's code; then
the rows a read completes, by induction on their list. -/
theorem sourceRowIsScaledBinarisedAndCoded : Obligations.SourceRowIsScaledBinarisedAndCoded := by
  refine ⟨fun d p bytes sd => ?_, fun s u it d sd r bytes rows later attempt phase used mem waits length only split => ?_⟩
  · intro sums row packer ended coded completesRow goesOversize
    refine ⟨SideContext.takeRow_before, fun completes exceeds => ?_, fun completes within => ⟨fun more => ?_,
      fun last ends => ?_, fun last exceeds => ?_⟩⟩ <;>
        have taken := SideContext.takeRow_completes (p := p) (bytes := bytes) completes
    · exact ⟨_, taken.trans (SideContext.codeRow_over exceeds), rfl, rfl, rfl, rfl, rfl, rfl, rfl, rfl, rfl⟩
    · exact taken.trans (SideContext.codeRow_within within more)
    · exact taken.trans (SideContext.codeRow_last within last ends)
    · exact ⟨_, taken.trans (SideContext.codeRow_last_over within last exceeds), rfl, rfl, rfl, rfl, rfl, rfl, rfl, rfl, rfl⟩
  · intro bytesOf complete bound takes taken fetch stop outcome becomes
    have all : taken = SideContext.takeAll { sd with reads := later } d it.fields rows := by
      show SideContext.takeAll { sd with reads := later } d it.fields (rows.take rows.length) = _
      rw [List.take_length]
    have before (k : Nat) (h : k < rows.length) :
        (SideContext.takeAll { sd with reads := later } d it.fields (rows.take k)).phase = .fetching := fetch ⟨k, h⟩
    obtain ⟨ends, place, writes, nextRow⟩ :=
      SideContext.takeAll_takes (sd := { sd with reads := later }) phase rows before
    rw [← all] at ends place writes nextRow
    have stops (fetching : taken.phase = .fetching) : taken.nextRowBytes d = none := by
      refine SideContext.nextRowBytes_eq_none (next := later.takeWhile fun x => x.row == sd.nextRow + rows.length) ?_
        (stop fetching)
      rw [ends.reads fetching, nextRow]
    have returned : sd.returnRead r.row r.off bytes = { sd with reads := rows.flatten ++ later } := by
      rw [SideContext.returnRead_eq bytes only, split]
    have nonempty : ∀ reads ∈ rows, reads ≠ [] := by
      rintro reads readsMem rfl
      obtain ⟨i, h, e⟩ := List.getElem_of_mem readsMem
      have count := (complete ⟨i, h⟩).2
      simp only [Fin.getElem_fin, e] at count
      exact absurd count (Nat.ne_of_lt used)
    have enough : rows.length ≤ (rows.flatten ++ later).length := by
      rw [List.length_append]
      exact le_trans (length_le_flatten nonempty) (Nat.le_add_right _ _)
    have read : sd.readEnded d it.fields r.row r.off (.ok bytes) = taken := by
      rw [SideContext.readEnded_fetching_ok phase, returned, all]
      exact SideContext.takeRows_eq_takeAll (sd := { sd with reads := later }) rows _ enough
        (fun i h => complete ⟨i, h⟩) bound before (all ▸ stops)
    have ran : outcome = .next (s.afterEvent u (taken.pump d (itemOutputAddress it.copy) s.draws)) := by
      rw [← read]
      exact exec_sourceReadDone attempt (SideContext.accepts_ok (SideContext.findRead_eq_some mem waits only) length)
    refine ⟨fun fetching => ?_, fun other => ?_⟩
    · obtain ⟨new, sent, waiting, readRow, readOff, inFlight, carried, e⟩ :=
        SideContext.pump_fetching (d := d) (out := itemOutputAddress it.copy) (draw := s.draws) fetching
      have reads : taken.reads = later := ends.reads fetching
      refine ⟨new, sent, waiting, readRow, readOff, inFlight, carried, ?_⟩
      rw [e, reads, writes] at ran
      exact ran.trans (congrArg _ (State.afterEvent_goesOn attempt (.inr fetching)))
    · obtain ⟨sent, carried, e⟩ := SideContext.pump_ended (d := d) (out := itemOutputAddress it.copy) (draw := s.draws)
        (ends.ended other)
      rw [e, writes] at ran
      have written (waits : taken.packer.waiting ≠ []) : sd.writes ++ sent ≠ [] := fun none => waits <| by
        rw [← carried, (List.append_eq_nil_iff.1 none).2]
        rfl
      refine ⟨sent, carried, fun some => ?_, fun oversize reads quiet => ?_⟩
      · exact ran.trans (congrArg _ (State.afterEvent_goesOn attempt
          (.inl (SideContext.quiet_eq_false (ends.busy other written some)))))
      · rw [ran]
        exact State.afterEvent_ladder attempt place (SideContext.quiet_eq_true (by simp [reads]) quiet) oversize

end Sys2Proof.Machine
end

section
/-! The groups of source columns (rows): where each begins, and how long its run is. -/

namespace Sys2Proof.Machine

section

variable {source output : Nat}

/-- `ceilDiv` is the least integer not below the quotient. -/
theorem ceilDiv_le_iff {x n y : Nat} (positive : 0 < n) : ceilDiv x n ≤ y ↔ x ≤ y * n := by
  rw [ceilDiv, ← Nat.lt_succ_iff, Nat.div_lt_iff_lt_mul positive, Nat.succ_mul]
  omega

theorem le_ceilDiv_mul {n : Nat} (positive : 0 < n) (x : Nat) : x ≤ ceilDiv x n * n :=
  (ceilDiv_le_iff positive).1 le_rfl

theorem ceilDiv_mul_lt {n : Nat} (positive : 0 < n) (x : Nat) : ceilDiv x n * n < x + n := by
  have product : (x + n - 1) / n * n ≤ x + n - 1 := Nat.div_mul_le_self _ _
  rw [ceilDiv]
  omega

theorem groupStart_le_iff (positive : 0 < output) {j x : Nat} :
    groupStart source output j ≤ x ↔ j * source ≤ x * output :=
  ceilDiv_le_iff positive

theorem groupStart_zero (positive : 0 < output) : groupStart source output 0 = 0 :=
  Nat.le_zero.1 ((groupStart_le_iff positive).2 (by omega))

theorem groupStart_output (positive : 0 < output) : groupStart source output output = source := by
  refine le_antisymm ((groupStart_le_iff positive).2 (Nat.mul_comm ..).le) ?_
  have whole : source * output ≤ groupStart source output output * output :=
    (Nat.mul_comm ..).le.trans (le_ceilDiv_mul positive (output * source))
  exact Nat.le_of_mul_le_mul_right whole positive

/-- The run of an output column, in multiples of the output size: within one output size of the source size. -/
theorem groupStart_succ (positive : 0 < output) (j : Nat) :
    ∃ run, groupStart source output (j + 1) = groupStart source output j + run ∧
      source < (run + 1) * output ∧ run * output < source + output := by
  have low := le_ceilDiv_mul positive (j * source)
  have lowEnd := ceilDiv_mul_lt positive (j * source)
  have high := le_ceilDiv_mul positive ((j + 1) * source)
  have highEnd := ceilDiv_mul_lt positive ((j + 1) * source)
  rw [Nat.succ_mul] at high highEnd
  have later : groupStart source output j ≤ groupStart source output (j + 1) :=
    (groupStart_le_iff positive).2 (by
      rw [groupStart, Nat.succ_mul]
      omega)
  obtain ⟨run, e⟩ := Nat.exists_eq_add_of_le later
  have ends : ceilDiv (j * source + source) output = ceilDiv (j * source) output + run := by
    rw [← Nat.succ_mul]
    exact e
  rw [ends, Nat.add_mul] at high highEnd
  refine ⟨run, e, ?_, by omega⟩
  rw [Nat.succ_mul]
  omega

/-- A length within one of a ratio is its floor or its ceil. -/
theorem floor_or_ceil {run : Nat} (positive : 0 < output) (low : source < (run + 1) * output)
    (high : run * output < source + output) : run = source / output ∨ run = (source + output - 1) / output := by
  have floor : source / output ≤ run := Nat.lt_succ_iff.1 ((Nat.div_lt_iff_lt_mul positive).2 low)
  have ceil : run ≤ (source + output - 1) / output := (Nat.le_div_iff_mul_le positive).2 (by omega)
  have close : (source + output - 1) / output ≤ source / output + 1 := by
    rw [← Nat.add_div_right _ positive]
    exact Nat.div_le_div_right (Nat.sub_le _ _)
  omega

end

/-- Settles O49: the runs tile by their bounds, and a run is the ratio rounded. -/
theorem groupsTileTheSource : Obligations.GroupsTileTheSource := by
  intro source output positive le four
  refine ⟨groupStart_zero positive, groupStart_output positive, fun x inside => ⟨?_, ?_, ?_⟩, fun j _ => ?_⟩
  · exact Nat.div_lt_of_lt_mul (Nat.mul_lt_mul_of_pos_right inside positive)
  · exact (groupStart_le_iff positive).2 (Nat.div_mul_le_self _ _)
  · refine Nat.lt_of_not_le fun before => ?_
    have quotient : x * output < (x * output / source + 1) * source :=
      (Nat.div_lt_iff_lt_mul (Nat.lt_of_lt_of_le positive le)).1 (Nat.lt_succ_self _)
    exact absurd ((groupStart_le_iff positive).1 before) (Nat.not_le.2 quotient)
  · obtain ⟨run, e, low, high⟩ := groupStart_succ (source := source) positive j
    intro length
    have isRun : length = run := by
      show groupStart source output (j + 1) - groupStart source output j = run
      omega
    rw [isRun]
    refine ⟨?_, ?_, floor_or_ceil positive low high⟩
    · refine Nat.pos_of_ne_zero fun none => ?_
      rw [none, Nat.zero_add, Nat.one_mul] at low
      omega
    · have short : run * output < 5 * output := by omega
      exact Nat.le_of_lt_succ (Nat.lt_of_mul_lt_mul_right short)

end Sys2Proof.Machine
end

section
/-! The packer: bytes are made of the bits in their order, and the budget is the number of bytes that pass. -/

namespace Sys2Proof.Machine

/-! ### Bits and bytes -/

theorem extendByBits_div (acc : Nat) (bits : List Bool) : extendByBits acc bits / 2 ^ bits.length = acc := by
  induction bits generalizing acc with
  | nil => exact Nat.div_one acc
  | cons bit bits ih =>
    calc extendByBits acc (bit :: bits) / 2 ^ (bits.length + 1)
      _ = extendByBits (2 * acc + bit.toNat) bits / 2 ^ bits.length / 2 := by rw [Nat.pow_succ, ← Nat.div_div_eq_div_mul]; rfl
      _ = acc := by
        have small := bit.toNat_lt
        rw [ih]
        omega

theorem msbBits_extendByBits (acc : Nat) (bits : List Bool) : msbBits bits.length (extendByBits acc bits) = bits := by
  induction bits generalizing acc with
  | nil => rfl
  | cons bit bits ih =>
    have below : msbBits bits.length (extendByBits acc (bit :: bits)) = bits := ih (2 * acc + bit.toNat)
    have quotient : extendByBits acc (bit :: bits) / 2 ^ bits.length = 2 * acc + bit.toNat :=
      extendByBits_div (2 * acc + bit.toNat) bits
    have highest : (extendByBits acc (bit :: bits)).testBit bits.length = bit := by
      rw [Nat.testBit_eq_decide_div_mod_eq, quotient]
      cases bit <;> simp
    rw [List.length_cons, msbBits, highest, below]

/-- The bits of a byte made of eight bits. -/
theorem msbBits_bitsToByte {bits : List Bool} (eight : bits.length = 8) : msbBits 8 (bitsToByte bits).toNat = bits := by
  have small : extendByBits 0 bits < 2 ^ 8 := by
    have none := extendByBits_div 0 bits
    rw [eight] at none
    omega
  have value : (bitsToByte bits).toNat = extendByBits 0 bits := by
    rw [bitsToByte, BitVec.toNat_ofNat]
    exact Nat.mod_eq_of_lt small
  rw [value, ← eight]
  exact msbBits_extendByBits 0 bits

theorem bytesToBits_concat (bytes : List Byte) {bits : List Bool} (eight : bits.length = 8) :
    bytesToBits (bytes ++ [bitsToByte bits]) = bytesToBits bytes ++ bits := by
  simp [bytesToBits, msbBits_bitsToByte eight]

theorem length_bytesToBits (bytes : List Byte) : (bytesToBits bytes).length = 8 * bytes.length := by
  induction bytes with
  | nil => rfl
  | cons b bytes ih =>
    simp only [bytesToBits, List.flatMap_cons, List.length_append, length_msbBits, List.length_cons] at ih ⊢
    omega

/-! ### The packer after some bits -/

/-- The packer holds `bits` within the budget: its bytes and its partial byte are these bits (R101). -/
structure Packer.Holds (budget : Nat) (bits : List Bool) (k : Packer) : Prop where
  within : k.overBudget = false
  held : bytesToBits k.waiting ++ k.partialBits = bits
  short : k.partialBits.length < 8
  counted : k.waiting.length = k.byteCount
  room : k.byteCount ≤ budget

/-- The packer has reported oversize: the budget's bytes have passed, and more bits came (R102). -/
structure Packer.Exceeds (budget : Nat) (bits : List Bool) (k : Packer) : Prop where
  exceeds : k.overBudget = true
  full : k.byteCount = budget
  held : bytesToBits k.waiting = bits.take (8 * budget)
  more : 8 * budget < bits.length

section

variable {budget : Nat} {bits : List Bool} {k : Packer}

theorem Packer.Holds.length (h : k.Holds budget bits) : bits.length = 8 * k.byteCount + k.partialBits.length := by
  rw [← h.held, List.length_append, length_bytesToBits, h.counted]

/-- A byte completed by `rest`: it passes, or the budget is exceeded. -/
theorem Packer.Holds.completeByte (h : k.Holds budget bits) {rest : List Bool}
    (eight : (k.partialBits ++ rest).length = 8) :
    (k.byteCount < budget ∧ (k.completeByte budget (k.partialBits ++ rest)).Holds budget (bits ++ rest) ∧
      (k.completeByte budget (k.partialBits ++ rest)).partialBits = []) ∨
    k.byteCount = budget ∧ (k.completeByte budget (k.partialBits ++ rest)).overBudget = true ∧
      (k.completeByte budget (k.partialBits ++ rest)).byteCount = budget ∧
      bytesToBits (k.completeByte budget (k.partialBits ++ rest)).waiting = bits.take (8 * budget) := by
  unfold Packer.completeByte
  split
  · next fits =>
    refine .inl ⟨fits, ⟨h.within, ?_, by simp, by simp [h.counted], fits⟩, rfl⟩
    rw [bytesToBits_concat _ eight, List.append_nil, ← List.append_assoc, h.held]
  · next exceeds =>
    have full : k.byteCount = budget := le_antisymm h.room (by omega)
    refine .inr ⟨full, rfl, full, ?_⟩
    rw [← h.held]
    refine (List.take_left' ?_).symm
    rw [length_bytesToBits, h.counted, full]

/-- One bit more. -/
theorem Packer.appendBit_holds (h : k.Holds budget bits ∨ k.Exceeds budget bits) (bit : Bool) :
    (k.appendBit budget bit).Holds budget (bits ++ [bit]) ∨ (k.appendBit budget bit).Exceeds budget (bits ++ [bit]) := by
  obtain holds | ⟨exceeds, full, held, more⟩ := h
  · have length := holds.length
    rw [Packer.appendBit, if_neg (Bool.eq_false_iff.1 holds.within)]
    split
    · next seven =>
      obtain ⟨-, holds', -⟩ | ⟨full, exceeds, full', held⟩ := holds.completeByte (rest := [bit]) (by simp [seven])
      · exact .inl holds'
      · have within : 8 * budget ≤ bits.length := by omega
        refine .inr ⟨exceeds, full', held.trans (List.take_append_of_le_length within).symm, ?_⟩
        rw [List.length_append]
        exact Nat.lt_succ_of_le within
    · next other =>
      refine .inl ⟨holds.within, ?_, ?_, holds.counted, holds.room⟩
      · rw [← List.append_assoc, holds.held]
      · have short := holds.short
        simp only [List.length_append, List.length_singleton]
        omega
  · rw [Packer.appendBit, if_pos exceeds]
    refine .inr ⟨exceeds, full, held.trans (List.take_append_of_le_length more.le).symm, ?_⟩
    rw [List.length_append]
    exact Nat.lt_add_right _ more

theorem Packer.append_holds (h : k.Holds budget bits ∨ k.Exceeds budget bits) (more : List Bool) :
    (k.append budget more).Holds budget (bits ++ more) ∨ (k.append budget more).Exceeds budget (bits ++ more) := by
  induction more generalizing k bits with
  | nil => simpa [Packer.append] using h
  | cons bit more ih =>
    have rest := ih (Packer.appendBit_holds h bit)
    rw [List.append_assoc] at rest
    exact rest

theorem Packer.fresh_holds (budget : Nat) : Packer.fresh.Holds budget [] :=
  ⟨rfl, rfl, Nat.zero_lt_succ 7, rfl, Nat.zero_le _⟩

end

/-- Settles O54: the bits appended, and the last byte padded or, beyond the budget, refused. -/
theorem packerFillsBytesWithinTheBudget : Obligations.PackerFillsBytesWithinTheBudget := by
  intro budget bits
  have appended := Packer.append_holds (.inl (Packer.fresh_holds budget)) bits
  rw [List.nil_append] at appended
  generalize Packer.fresh.append budget bits = k at appended
  obtain holds | ⟨exceeds, full, held, more⟩ := appended
  · have length := holds.length
    have room := holds.room
    by_cases whole : k.partialBits = []
    · have done : k.finish budget = k := if_pos (by simp [whole])
      rw [done]
      rw [whole, List.length_nil] at length
      refine ⟨fun _ => ⟨holds.within, by omega, whole, 0, by omega, ?_⟩, fun more => by omega⟩
      simp [← holds.held, whole]
    · have some := List.length_pos_of_ne_nil whole
      have short := holds.short
      have done : k.finish budget =
          k.completeByte budget (k.partialBits ++ List.replicate (8 - k.partialBits.length) false) :=
        if_neg (by simp [holds.within, whole])
      rw [done]
      obtain ⟨fits, holds', none⟩ | ⟨full, exceeds, full', held⟩ :=
        holds.completeByte (rest := List.replicate (8 - k.partialBits.length) false) (by
          simp only [List.length_append, List.length_replicate]
          omega)
      · have length' := holds'.length
        have held := holds'.held
        rw [none, List.append_nil] at held
        simp only [none, List.length_append, List.length_replicate, List.length_nil] at length'
        exact ⟨fun _ => ⟨holds'.within, by omega, none, _, by omega, held⟩, fun more => by omega⟩
      · exact ⟨fun fits => by omega, fun _ => ⟨exceeds, full', held⟩⟩
  · have done : k.finish budget = k := if_pos (by simp [exceeds])
    rw [done]
    exact ⟨fun fits => by omega, fun _ => ⟨exceeds, full, held⟩⟩

end Sys2Proof.Machine
end

section
/-! The stream: the run list of a row and its decoding, the code of a row, and the stream of rows. -/

namespace Sys2Proof.Machine

/-! ### Run lists -/

theorem expandRuns_runsFrom (colour : Bool) (n : Nat) (row : List Bool) :
    expandRuns colour (runsFrom colour n row) = List.replicate n colour ++ row := by
  induction row generalizing colour n with
  | nil => rfl
  | cons pixel row ih =>
    unfold runsFrom
    split
    · next same => rw [ih, same, List.replicate_succ', List.append_assoc, List.singleton_append]
    · next other =>
      have flipped : (!colour) = pixel := (Bool.eq_not.2 other).symm
      rw [expandRuns, flipped, ih]
      rfl

theorem sum_runsFrom (colour : Bool) (n : Nat) (row : List Bool) : (runsFrom colour n row).sum = n + row.length := by
  induction row generalizing colour n with
  | nil => simp [runsFrom]
  | cons pixel row ih =>
    unfold runsFrom
    split
    · rw [ih, List.length_cons]
      omega
    · rw [List.sum_cons, ih, List.length_cons]
      omega

/-- The first run may be 0; no other is (R96). -/
theorem runsFrom_eq_cons (colour : Bool) (n : Nat) (row : List Bool) :
    ∃ first rest, runsFrom colour n row = first :: rest ∧ n ≤ first ∧ ∀ r ∈ rest, 1 ≤ r := by
  induction row generalizing colour n with
  | nil => exact ⟨n, [], rfl, le_rfl, by simp⟩
  | cons pixel row ih =>
    unfold runsFrom
    split
    · obtain ⟨first, rest, e, bound, later⟩ := ih colour (n + 1)
      exact ⟨first, rest, e, by omega, later⟩
    · obtain ⟨first, rest, e, bound, later⟩ := ih pixel 1
      exact ⟨n, _, rfl, le_rfl, by simpa [e] using ⟨bound, later⟩⟩

/-- The run list of a row with a black pixel. -/
theorem runList_of_black {row : List Bool} (black : true ∈ row) : ∃ first rest, runList row = first :: rest ∧ rest ≠ [] ∧
    (∀ r ∈ rest, 1 ≤ r) ∧ first + rest.sum = row.length ∧ expandRuns false (first :: rest) = row := by
  obtain ⟨first, rest, e, -, later⟩ := runsFrom_eq_cons false 0 row
  have sum := sum_runsFrom false 0 row
  have expand := expandRuns_runsFrom false 0 row
  rw [e] at sum expand
  refine ⟨first, rest, e, ?_, later, by simpa using sum, expand⟩
  rintro rfl
  rw [← show List.replicate first false ++ [] = row from expand] at black
  simp at black

/-! ### The code of a row -/

section

variable {k : Nat} {previous : Option (List Bool)} {row : List Bool}

theorem rowCode_white (white : ∀ black ∈ row, black = false) : rowCode k previous row = [false] := by
  have kind : rowKind previous row = .blank := if_pos (List.all_eq_true.2 fun black mem => by rw [white black mem]; rfl)
  rw [rowCode, kind]

theorem not_white (black : true ∈ row) : ¬ row.all (fun black => !black) = true := fun white => by
  have contra := List.all_eq_true.1 white true black
  cases contra

theorem rowCode_repeat (black : true ∈ row) (same : previous = some row) : rowCode k previous row = [true, false] := by
  have kind : rowKind previous row = .same := (if_neg (not_white black)).trans (if_pos same)
  rw [rowCode, kind]

theorem rowCode_runs (black : true ∈ row) (other : previous ≠ some row) :
    rowCode k previous row = [true, true] ++ (runValues (runList row)).flatMap (valueCode k) := by
  have kind : rowKind previous row = .runs := (if_neg (not_white black)).trans (if_neg other)
  rw [rowCode, kind]

/-- The code of the runs after the first (R97, R98). -/
def laterRunsCode (k : Nat) (runs : List Nat) : List Bool :=
  runs.flatMap fun r => valueCode k (r - 1)

theorem runValues_code (k first : Nat) (rest : List Nat) :
    (runValues (first :: rest)).flatMap (valueCode k) = valueCode k first ++ laterRunsCode k rest := by
  simp [runValues, laterRunsCode, List.flatMap_map]

end

/-! ### The decoder of a row -/

/-- One run read (section 6.6, step 3). -/
theorem decodeRuns_succ (k wo fuel : Nat) (isFirst colour : Bool) (pixels : List Bool) (v : Nat) (rest : List Bool) :
    decodeRuns k wo (fuel + 1) isFirst colour pixels (valueCode k v ++ rest) =
      if (pixels ++ List.replicate (if isFirst then v else v + 1) colour).length < wo then
        decodeRuns k wo fuel false (!colour) (pixels ++ List.replicate (if isFirst then v else v + 1) colour) rest
      else if (pixels ++ List.replicate (if isFirst then v else v + 1) colour).length = wo then
        some (pixels ++ List.replicate (if isFirst then v else v + 1) colour, rest)
      else none := by
  simp only [decodeRuns, decodeValue_valueCode]

theorem decodeRuns_later {k wo : Nat} {runs : List Nat} (some : runs ≠ []) (later : ∀ r ∈ runs, 1 ≤ r) (fuel : Nat)
    (colour : Bool) (pixels pad : List Bool) (width : pixels.length + runs.sum = wo) (enough : runs.length ≤ fuel) :
    decodeRuns k wo fuel false colour pixels (laterRunsCode k runs ++ pad) =
      .some (pixels ++ expandRuns colour runs, pad) := by
  induction runs generalizing fuel colour pixels with
  | nil => exact absurd rfl some
  | cons run runs ih =>
    obtain ⟨fuel, rfl⟩ : ∃ n, fuel = n + 1 := ⟨fuel - 1, by simp at enough; omega⟩
    have positive : run - 1 + 1 = run := Nat.sub_add_cancel (later run List.mem_cons_self)
    have code : laterRunsCode k (run :: runs) ++ pad = valueCode k (run - 1) ++ (laterRunsCode k runs ++ pad) := by
      simp [laterRunsCode]
    rw [code, decodeRuns_succ]
    simp only [Bool.false_eq_true, if_false, positive]
    rw [List.sum_cons] at width
    have length : (pixels ++ List.replicate run colour).length + runs.sum = wo := by
      simp only [List.length_append, List.length_replicate]
      omega
    cases runs with
    | nil =>
      have last : (pixels ++ List.replicate run colour).length = wo := by simpa using length
      rw [if_neg (by omega), if_pos last]
      simp [laterRunsCode, expandRuns]
    | cons next runs =>
      have others : ∀ r ∈ next :: runs, 1 ≤ r := fun r mem => later r (List.mem_cons_of_mem _ mem)
      have more : (pixels ++ List.replicate run colour).length < wo := by
        have positive := others next List.mem_cons_self
        rw [List.sum_cons] at length
        omega
      rw [if_pos more, ih (by simp) others fuel _ _ length (by simpa using enough), List.append_assoc]
      rfl

theorem decodeRuns_runs {k wo first : Nat} {rest : List Nat} (some : rest ≠ []) (later : ∀ r ∈ rest, 1 ≤ r)
    (width : first + rest.sum = wo) (pad : List Bool) :
    decodeRuns k wo (wo + 1) true false [] (valueCode k first ++ laterRunsCode k rest ++ pad) =
      .some (expandRuns false (first :: rest), pad) := by
  have count : rest.length ≤ rest.sum := List.length_le_sum_of_one_le rest later
  have nonempty := List.length_pos_of_ne_nil some
  have more : first < wo := by omega
  rw [List.append_assoc, decodeRuns_succ]
  simp only [if_true, List.nil_append, List.length_replicate, if_pos more]
  rw [decodeRuns_later some later wo _ _ _ (by simpa using width) (by omega)]
  rfl

/-- A row read back from its code, whatever follows. -/
theorem decodeRow_rowCode {k wo : Nat} (previous : Option (List Bool)) {row : List Bool} (width : row.length = wo)
    (pad : List Bool) : decodeRow k wo previous (rowCode k previous row ++ pad) = some (row, pad) := by
  by_cases black : true ∈ row
  · by_cases same : previous = some row
    · rw [rowCode_repeat black same, same]
      rfl
    · obtain ⟨first, rest, runs, some, later, length, expand⟩ := runList_of_black black
      have code : rowCode k previous row ++ pad = true :: true :: (valueCode k first ++ laterRunsCode k rest ++ pad) := by
        rw [rowCode_runs black same, runs, runValues_code]
        rfl
      rw [code, decodeRow, decodeRuns_runs some later (length.trans width), expand]
  · have white : ∀ pixel ∈ row, pixel = false := fun pixel mem =>
      Bool.eq_false_iff.2 fun isBlack => black (isBlack ▸ mem)
    rw [rowCode_white white, List.eq_replicate_iff.2 ⟨width, white⟩]
    rfl

theorem decodeRows_streamBits {k wo : Nat} (previous : Option (List Bool)) (rows : List (List Bool))
    (width : ∀ row ∈ rows, row.length = wo) (pad : List Bool) :
    decodeRows k wo rows.length previous (streamBits k previous rows ++ pad) = some (rows, pad) := by
  induction rows generalizing previous with
  | nil => rfl
  | cons row rows ih =>
    rw [streamBits, List.append_assoc, List.length_cons, decodeRows, decodeRow_rowCode previous (width row List.mem_cons_self)]
    simp only [ih (some row) fun row' mem => width row' (List.mem_cons_of_mem _ mem)]

/-- Settles O53: the code of a row by its kind, and the decoder row by row. -/
theorem streamDecodesIntoItsRows : Obligations.StreamDecodesIntoItsRows := by
  refine ⟨fun k previous row => ⟨rowCode_white, rowCode_repeat, fun black other => ?_⟩,
    fun k wo rows pad width => decodeRows_streamBits none rows width pad⟩
  obtain ⟨first, rest, runs, some, later, length, expand⟩ := runList_of_black black
  refine ⟨first, rest, ?_, some, later, length, expand⟩
  rw [rowCode_runs black other, runs, runValues_code, List.append_assoc]
  rfl

end Sys2Proof.Machine
end

section
/-! The records of section 11.9: what stands at each offset of what the engine writes, and of a docket copy. -/

namespace Sys2Proof.Machine

/-! ### Fields of appended bytes -/

@[simp] theorem length_zeros (n : Nat) : (zeros n).length = n := List.length_replicate

theorem leValue_leBytes (n v : Nat) : leValue (leBytes n v) = v % 256 ^ n := by
  induction n generalizing v with
  | zero => rw [Nat.pow_zero, Nat.mod_one]; rfl
  | succ n ih =>
    have split : v % 256 ^ (n + 1) = v % 256 + 256 * (v / 256 % 256 ^ n) := by rw [Nat.pow_succ', Nat.mod_mul]
    rw [leBytes, leValue, ih, BitVec.toNat_ofNat]
    exact split.symm

theorem leValue_zeros (n : Nat) : leValue (zeros n) = 0 := by
  induction n with
  | zero => rfl
  | succ n ih =>
    have rest : leValue (zeros (n + 1)) = 0 + 256 * leValue (zeros n) := rfl
    rw [rest, ih]

@[simp] theorem field_leBytes (n v : Nat) : field (leBytes n v) 0 n = v % 256 ^ n := by
  rw [field, List.drop_zero, List.take_of_length_le (length_leBytes n v).le, leValue_leBytes]

@[simp] theorem field_zeros (n : Nat) : field (zeros n) 0 n = 0 := by
  rw [field, List.drop_zero, List.take_of_length_le (length_zeros n).le, leValue_zeros]

section

variable {a b : List Byte} {off n : Nat}

theorem field_append_left (inside : off + n ≤ a.length) : field (a ++ b) off n = field a off n := by
  have rest : n ≤ (a.drop off).length := by
    rw [List.length_drop]
    omega
  rw [field, field, List.drop_append_of_le_length (by omega), List.take_append_of_le_length rest]

theorem field_append_right (past : a.length ≤ off) : field (a ++ b) off n = field b (off - a.length) n := by
  rw [field, field, List.drop_append, List.drop_eq_nil_of_le past, List.nil_append]

end

/-! ### Codes and flags -/

theorem LaneCondition.code_mod (c : LaneCondition) : c.code % 256 = c.code := by cases c <;> rfl

theorem FaultCode.code_mod (c : FaultCode) : c.code % 256 = c.code := by cases c <;> rfl

theorem RefusalCode.code_mod (c : RefusalCode) : c.code % 256 = c.code := by cases c <;> rfl

theorem ItemOutcome.code_mod (c : ItemOutcome) : c.code % 256 = c.code := by cases c <;> rfl

theorem SideStatus.code_mod (c : SideStatus) : c.code % 256 = c.code := by cases c <;> rfl

theorem testBit_of_digit {n i : Nat} {b : Bool} (digit : n / 2 ^ i % 2 = b.toNat) : n.testBit i = b := by
  rw [Nat.testBit_eq_decide_div_mod_eq, digit]
  cases b <;> rfl

/-- The bits of the flags field, bit 0 INK_LOW up to bit 7 FALLBACK (11.9.2). -/
theorem SideFlags.code_bits (f : SideFlags) : f.code < 256 ∧ f.code.testBit 0 = f.inkLow ∧ f.code.testBit 1 = f.inkHigh ∧
    f.code.testBit 2 = f.bgLow ∧ f.code.testBit 3 = f.bgHigh ∧ f.code.testBit 4 = f.small ∧ f.code.testBit 5 = f.streak ∧
    f.code.testBit 6 = f.oversize ∧ f.code.testBit 7 = f.fallback := by
  have inkLow := toNat_lt_two f.inkLow
  have inkHigh := toNat_lt_two f.inkHigh
  have bgLow := toNat_lt_two f.bgLow
  have bgHigh := toNat_lt_two f.bgHigh
  have small := toNat_lt_two f.small
  have streak := toNat_lt_two f.streak
  have oversize := toNat_lt_two f.oversize
  have fallback := toNat_lt_two f.fallback
  unfold SideFlags.code
  refine ⟨by omega, testBit_of_digit ?_, testBit_of_digit ?_, testBit_of_digit ?_, testBit_of_digit ?_,
    testBit_of_digit ?_, testBit_of_digit ?_, testBit_of_digit ?_, testBit_of_digit ?_⟩ <;> omega

/-! ### The device half -/

theorem Lane.deviceHalf_fields (l : Lane) : l.deviceHalf.length = 64 ∧ field l.deviceHalf 0x00 8 = l.cursor.toNat ∧
    field l.deviceHalf 0x08 1 = l.condition.code ∧ field l.deviceHalf 0x09 1 = l.lastFault.code ∧
    field l.deviceHalf 0x0A 1 = l.bundle.isOpen.toNat ∧ field l.deviceHalf 0x0B 1 = 0 ∧
    field l.deviceHalf 0x0C 4 = l.bundle.id.toNat ∧ field l.deviceHalf 0x10 4 = l.finished.toNat ∧
    field l.deviceHalf 0x14 4 = l.skipped.toNat ∧ field l.deviceHalf 0x18 4 = l.faults.toNat ∧
    field l.deviceHalf 0x1C 4 = l.lastSequence.toNat ∧ field l.deviceHalf 0x20 8 = l.lastFaultDocket.toNat ∧
    field l.deviceHalf 0x28 24 = 0 := by
  have isOpen := toNat_lt_two l.bundle.isOpen
  simp only [Lane.deviceHalf]
  refine ⟨?_, ?_, ?_, ?_, ?_, ?_, ?_, ?_, ?_, ?_, ?_, ?_, ?_⟩
  all_goals simp [field_append_left, field_append_right, length_leBytes, LaneCondition.code_mod, FaultCode.code_mod]
  all_goals omega

/-! ### Result sections -/

section

variable (sequence : Word) {r : Report}

theorem resultSection_head (result : r.result.length = 91) : (resultSection sequence r).length = 96 ∧
    field (resultSection sequence r) 0 4 = sequence.toNat ∧ field (resultSection sequence r) 4 1 = r.refusal.code := by
  have word := sequence.isLt
  simp only [resultSection]
  refine ⟨?_, ?_, ?_⟩
  all_goals simp [field_append_left, field_append_right, length_leBytes, RefusalCode.code_mod, result]
  exact word

/-- The kind-specific bytes stand from byte 5 of the section on (R181). -/
theorem field_resultSection (result : List Byte) (code : RefusalCode) (change : BundleChange) {off n : Nat}
    (past : 5 ≤ off) : field (resultSection sequence { refusal := code, result := result, change := change }) off n =
      field result (off - 5) n := by
  have head : (leBytes 4 sequence.toNat ++ leBytes 1 code.code).length = 5 := by simp [length_leBytes]
  have right := field_append_right (b := result) (n := n) (head.trans_le past)
  rwa [head] at right

end

/-! ### The result of a side -/

/-- The side result `x` stands at `base` of the record `r` (11.9.2). -/
def SideResult.StandsAt (x : SideResult) (r : List Byte) (base : Nat) : Prop :=
  field r base 1 = x.status.code ∧ field r (base + 1) 1 = x.step ∧ field r (base + 2) 2 = x.flags.code ∧
    field r (base + 4) 4 = x.offset ∧ field r (base + 8) 2 = x.wo ∧ field r (base + 10) 2 = x.ho ∧
    field r (base + 12) 4 = x.byteCount ∧ field r (base + 16) 2 = x.ink ∧ field r (base + 18) 1 = x.background ∧
    field r (base + 19) 1 = 0 ∧ field r (base + 20) 2 = x.streaks ∧ field r (base + 22) 10 = 0

/-- The values of a side result fit their fields. -/
def SideResult.Fits (x : SideResult) : Prop :=
  x.step ≤ 2 ∧ x.offset < 2 ^ 32 ∧ x.wo ≤ 2048 ∧ x.ho ≤ 2048 ∧ x.byteCount ≤ 1048576 ∧ x.ink ≤ 1000 ∧
    x.background ≤ 255 ∧ x.streaks ≤ 2048

section

variable {x : SideResult}

@[simp] theorem length_sideResultBytes (x : SideResult) : (sideResultBytes x).length = 32 := by
  simp [sideResultBytes, length_leBytes]

theorem SideResult.Fits.standsAt (h : x.Fits) : x.StandsAt (sideResultBytes x) 0 := by
  obtain ⟨step, offset, wo, ho, byteCount, ink, background, streaks⟩ := h
  have flags := x.flags.code_bits.1
  simp only [SideResult.StandsAt, sideResultBytes]
  refine ⟨?_, ?_, ?_, ?_, ?_, ?_, ?_, ?_, ?_, ?_, ?_, ?_⟩
  all_goals simp [field_append_left, field_append_right, length_leBytes, SideStatus.code_mod]
  all_goals omega

/-- What stands in a part of a record stands in the record. -/
theorem SideResult.StandsAt.of_part {r part : List Byte} {base : Nat} (h : x.StandsAt part 0)
    (same : ∀ k n, k + n ≤ 32 → field r (base + k) n = field part k n) : x.StandsAt r base := by
  simp only [SideResult.StandsAt, Nat.zero_add] at h
  have first : field r base 1 = field part 0 1 := same 0 1 (by decide)
  simp only [SideResult.StandsAt, first, same _ _ (by decide : 1 + 1 ≤ 32), same _ _ (by decide : 2 + 2 ≤ 32),
    same _ _ (by decide : 4 + 4 ≤ 32), same _ _ (by decide : 8 + 2 ≤ 32), same _ _ (by decide : 10 + 2 ≤ 32),
    same _ _ (by decide : 12 + 4 ≤ 32), same _ _ (by decide : 16 + 2 ≤ 32), same _ _ (by decide : 18 + 1 ≤ 32),
    same _ _ (by decide : 19 + 1 ≤ 32), same _ _ (by decide : 20 + 2 ≤ 32), same _ _ (by decide : 22 + 10 ≤ 32)]
  exact h

end

/-! ### The result bytes of each kind -/

section

variable {outcome : ItemOutcome} {u : UnitNo} {p : Fin 16} {generation : BitVec 16} {front rear : SideResult}

theorem length_itemResultBytes : (itemResultBytes outcome u p generation front rear).length = 91 := by
  simp [itemResultBytes, length_leBytes]

theorem itemResultBytes_head (outcome : ItemOutcome) (u : UnitNo) (p : Fin 16) (generation : BitVec 16)
    (front rear : SideResult) :
    field (itemResultBytes outcome u p generation front rear) 0 1 = outcome.code ∧
    field (itemResultBytes outcome u p generation front rear) 1 1 = u.val ∧
    field (itemResultBytes outcome u p generation front rear) 2 1 = p.val ∧
    field (itemResultBytes outcome u p generation front rear) 3 2 = generation.toNat ∧
    field (itemResultBytes outcome u p generation front rear) 5 6 = 0 ∧
    field (itemResultBytes outcome u p generation front rear) 75 16 = 0 := by
  have unit := u.isLt
  have profile := p.isLt
  have taken := generation.isLt
  simp only [itemResultBytes]
  refine ⟨?_, ?_, ?_, ?_, ?_, ?_⟩
  all_goals simp [field_append_left, field_append_right, length_leBytes, ItemOutcome.code_mod]
  all_goals omega

/-- The 11 bytes before the side results. -/
def itemHeadBytes (outcome : ItemOutcome) (u : UnitNo) (p : Fin 16) (generation : BitVec 16) : List Byte :=
  leBytes 1 outcome.code ++ leBytes 1 u.val ++ leBytes 1 p.val ++ leBytes 2 generation.toNat ++ zeros 6

theorem itemResultBytes_eq : itemResultBytes outcome u p generation front rear =
    itemHeadBytes outcome u p generation ++ sideResultBytes front ++ sideResultBytes rear ++ zeros 16 := rfl

theorem length_itemHeadBytes : (itemHeadBytes outcome u p generation).length = 11 := by
  simp [itemHeadBytes, length_leBytes]

theorem itemResultBytes_front {k n : Nat} (inside : k + n ≤ 32) :
    field (itemResultBytes outcome u p generation front rear) (11 + k) n = field (sideResultBytes front) k n := by
  rw [itemResultBytes_eq, field_append_left (by simp [length_itemHeadBytes]; omega),
    field_append_left (by simp [length_itemHeadBytes]; omega), field_append_right (by simp [length_itemHeadBytes]),
    length_itemHeadBytes, Nat.add_sub_cancel_left]

theorem itemResultBytes_rear {k n : Nat} (inside : k + n ≤ 32) :
    field (itemResultBytes outcome u p generation front rear) (43 + k) n = field (sideResultBytes rear) k n := by
  have before : (itemHeadBytes outcome u p generation ++ sideResultBytes front).length = 43 := by
    simp [length_itemHeadBytes]
  rw [itemResultBytes_eq, field_append_left (by simp [length_itemHeadBytes]; omega),
    field_append_right (by simp [length_itemHeadBytes]), before, Nat.add_sub_cancel_left]

end

theorem openResultBytes_fields {applied : Nat} (few : applied ≤ 4) : (openResultBytes applied).length = 91 ∧
    field (openResultBytes applied) 0 1 = applied ∧ field (openResultBytes applied) 1 90 = 0 := by
  simp only [openResultBytes]
  refine ⟨?_, ?_, ?_⟩
  all_goals simp [field_append_left, field_append_right, length_leBytes]
  all_goals omega

theorem closeResultBytes_fields (b : Bundle) : (closeResultBytes b).length = 91 ∧
    field (closeResultBytes b) 0 3 = 0 ∧ field (closeResultBytes b) 3 4 = b.id.toNat ∧
    field (closeResultBytes b) 7 4 = b.itemsDone.toNat ∧ field (closeResultBytes b) 11 4 = b.itemsRefused.toNat ∧
    field (closeResultBytes b) 15 4 = b.sidesCoded.toNat ∧ field (closeResultBytes b) 19 4 = b.bytes.toNat ∧
    field (closeResultBytes b) 23 4 = b.flagged.toNat ∧ field (closeResultBytes b) 27 4 = b.oversize.toNat ∧
    field (closeResultBytes b) 31 4 = b.errors.toNat ∧ field (closeResultBytes b) 35 56 = 0 := by
  simp only [closeResultBytes]
  refine ⟨?_, ?_, ?_, ?_, ?_, ?_, ?_, ?_, ?_, ?_, ?_⟩
  all_goals simp [field_append_left, field_append_right, length_leBytes]
  all_goals omega

theorem stageResultBytes_fields (generation : BitVec 16) {count : Nat} (few : count ≤ 4) :
    (stageResultBytes generation count).length = 91 ∧ field (stageResultBytes generation count) 0 3 = 0 ∧
    field (stageResultBytes generation count) 3 2 = generation.toNat ∧
    field (stageResultBytes generation count) 5 1 = count ∧ field (stageResultBytes generation count) 6 85 = 0 := by
  simp only [stageResultBytes]
  refine ⟨?_, ?_, ?_, ?_, ?_⟩
  all_goals simp [field_append_left, field_append_right, length_leBytes]
  all_goals omega

/-! ### The fields of a docket copy -/

section

variable (copy : List Byte)

/-- A field is its low part and its high part (R181). -/
theorem field_add (off m n : Nat) : field copy off (m + n) = field copy off m + 256 ^ m * field copy (off + m) n := by
  induction m generalizing off with
  | zero => simp [field_zero]
  | succ m ih =>
    rw [Nat.add_right_comm, field_succ, ih, field_succ copy off m, Nat.add_right_comm off 1 m, ← Nat.add_assoc off m 1]
    ring

theorem toNat_wordField (off : Nat) : (wordField copy off).toNat = field copy off 4 := by
  rw [wordField, BitVec.toNat_ofNat]
  exact Nat.mod_eq_of_lt (field_lt copy off 4)

theorem toNat_addrField (off : Nat) : (addrField copy off).toNat = field copy off 8 := by
  rw [addrField, BitVec.toNat_ofNat]
  exact Nat.mod_eq_of_lt (field_lt copy off 8)

end

/-- Settles O55: each record by the fields of its parts. -/
theorem recordsHoldTheirFields : Obligations.RecordsHoldTheirFields := by
  refine ⟨Lane.deviceHalf_fields, fun sequence change => ?_, fun copy => ?_⟩
  · intro section_ head
    have heads {code : RefusalCode} {result : List Byte} (length : result.length = 91) :
        head (section_ code result) code.code :=
      resultSection_head sequence (r := { refusal := code, result := result, change := change }) length
    have rest (code : RefusalCode) (result : List Byte) {off n : Nat} (past : 5 ≤ off) :
        field (section_ code result) off n = field result (off - 5) n :=
      field_resultSection sequence result code change past
    refine ⟨fun code => ?_, fun outcome u p generation front rear => ?_, fun applied few => ?_, fun b => ?_,
      fun generation count few => ?_⟩
    · exact ⟨heads (length_zeros 91), (rest code _ (by decide)).trans (field_zeros 91)⟩
    · intro r holds fits
      obtain ⟨result, unit, profile, taken, gap, last⟩ := itemResultBytes_head outcome u p generation front rear
      have stands {x : SideResult} {base : Nat} (h : x.StandsAt r base) : holds base x := by
        obtain ⟨status, step, flags, offset, wo, ho, byteCount, ink, background, gap, streaks, zero⟩ := h
        have bits := x.flags.code_bits
        rw [← flags] at bits
        obtain ⟨small, b0, b1, b2, b3, b4, b5, b6, b7⟩ := bits
        exact ⟨status, step, small, b0, b1, b2, b3, b4, b5, b6, b7, offset, wo, ho, byteCount, ink, background, gap,
          streaks, zero⟩
      refine ⟨heads length_itemResultBytes, (rest _ _ (by decide)).trans result, (rest _ _ (by decide)).trans unit,
        (rest _ _ (by decide)).trans profile, (rest _ _ (by decide)).trans taken, (rest _ _ (by decide)).trans gap,
        fun within => stands ?_, fun within => stands ?_, (rest _ _ (by decide)).trans last⟩
      · refine (SideResult.Fits.standsAt within).of_part fun k n inside => ?_
        have place : 16 + k - 5 = 11 + k := by omega
        rw [rest _ _ (by omega), place, itemResultBytes_front inside]
      · refine (SideResult.Fits.standsAt within).of_part fun k n inside => ?_
        have place : 48 + k - 5 = 43 + k := by omega
        rw [rest _ _ (by omega), place, itemResultBytes_rear inside]
    · obtain ⟨length, count, zero⟩ := openResultBytes_fields few
      exact ⟨heads length, (rest _ _ (by decide)).trans count, (rest _ _ (by decide)).trans zero⟩
    · obtain ⟨length, gap, id, done, refused, sides, bytes, flagged, oversize, errors, zero⟩ := closeResultBytes_fields b
      exact ⟨heads length, (rest _ _ (by decide)).trans gap, (rest _ _ (by decide)).trans id,
        (rest _ _ (by decide)).trans done, (rest _ _ (by decide)).trans refused, (rest _ _ (by decide)).trans sides,
        (rest _ _ (by decide)).trans bytes, (rest _ _ (by decide)).trans flagged, (rest _ _ (by decide)).trans oversize,
        (rest _ _ (by decide)).trans errors, (rest _ _ (by decide)).trans zero⟩
    · obtain ⟨length, gap, taken, number, zero⟩ := stageResultBytes_fields generation few
      exact ⟨heads length, (rest _ _ (by decide)).trans gap, (rest _ _ (by decide)).trans taken,
        (rest _ _ (by decide)).trans number, (rest _ _ (by decide)).trans zero⟩
  · intro byte half word quad describes
    have isByte (i : Nat) : field copy i 1 = byte i := field_one copy i
    have isHalf (i : Nat) : field copy i 2 = half i := field_two copy i
    have isWord (i : Nat) : field copy i 4 = word i := by
      have parts := field_add copy i 2 2
      rw [isHalf, isHalf] at parts
      exact parts
    have isQuad (i : Nat) : field copy i 8 = quad i := by
      have parts := field_add copy i 4 4
      rw [isWord, isWord] at parts
      exact parts
    have isWordField (i : Nat) : (wordField copy i).toNat = word i := (toNat_wordField copy i).trans (isWord i)
    have isAddrField (i : Nat) : (addrField copy i).toNat = quad i := (toNat_addrField copy i).trans (isQuad i)
    have isSet (i : Nat) : (field copy i 1 != 0) = true ↔ byte i ≠ 0 := by rw [bne_iff_ne, isByte]
    have side (base : Nat) : describes (sideDescriptor copy base) base :=
      ⟨isAddrField _, isWord _, isHalf _, isHalf _, isHalf _, isByte _, isSet _⟩
    refine ⟨?_, isWordField _, isByte _, isWordField _, isSet _, isAddrField _, isWord _, side _, side _, ?_, isByte _,
      ?_, fun i => ?_⟩
    · rw [docketKind, isByte] <;> rfl
    · rw [stageTrigger, isByte] <;> rfl
    · rw [← isHalf]
      exact (BitVec.toNat_ofNat ..).trans (Nat.mod_eq_of_lt (field_lt copy 0x1C 2))
    · have value : (stageUpdate copy).values[i] = wordField copy (0x20 + 4 * i.val) := Vector.getElem_ofFn ..
      rw [value]
      exact isWordField _

end Sys2Proof.Machine
end
